-- ==== Sys2Proof/Word.lean ====
section
/-! DEFINITION. The words of the CORE: command and index registers (32 bits), samples (16 bits), bytes of a
byte-addressed binding, binary64 data as bit patterns, and complex values as pairs of them. -/

namespace Sys2Proof

/-- A command word, an index or a count register (`AW = 32`, R9, R90). -/
abbrev Word := BitVec 32

/-- One entry of WAVE, a two's complement sample (R21). -/
abbrev Half := BitVec 16

/-- One byte of a byte-addressed binding (R65). -/
abbrev Byte := BitVec 8

/-- A binary64 datum as its 64-bit pattern (R110). -/
abbrev F64 := BitVec 64

/-- A complex value `(re, im)` of two reals (R13). -/
structure Cplx where
  re : F64
  im : F64
deriving DecidableEq, Repr

/-- The reset value of a BUF entry: both parts `+0.0` (R23). -/
def Cplx.zero : Cplx := ⟨0, 0⟩

end Sys2Proof
end

