-- ==== Sys2Proof/Config.lean ====
section
/-! DEFINITION. The configuration `CFG = (BLOCK_SIZE, STEP_SIZE, NUM)` of an instance (R6, R7, R10, R11) and the free
values the spec leaves open. -/

namespace Sys2Proof

/-- The instantiation of `NUM.cos` and `NUM.sin` (R115, `93_implementation_defined.md` U2): the reference (correct
rounding), or some other pair of functions, one pair for each `id`, of which nothing is known. -/
inductive Num where
  | reference
  | other (id : Nat)
deriving DecidableEq, Repr

/-- R10: `BLOCK_SIZE` is one of 2, 4, 8, ..., 2^30 and `1 <= STEP_SIZE < BLOCK_SIZE`. -/
def configLegal (blockSize stepSize : Nat) : Bool :=
  (List.range 30).any (fun k => blockSize == 2 ^ (k + 1)) && (decide (1 ≤ stepSize) && decide (stepSize < blockSize))

/-- A well-formed configuration. An ill-formed one has no instance and no model (R10, R162, U1), so the check is part
of the type. -/
structure Config where
  /-- `BLOCK_SIZE`, also `N` (R6). -/
  blockSize : Nat
  /-- `STEP_SIZE`, also `S` (R7). -/
  stepSize : Nat
  /-- The part of `NUM` that is a parameter (R11, R115). -/
  num : Num
  legal : configLegal blockSize stepSize = true := by decide
deriving DecidableEq, Repr

/-- The defaults 4096 and 1024 (R6, R7) with the reference numerics (R11). DESIGN CHOICE, log entries 1 and 2. -/
def Config.default : Config := { blockSize := 4096, stepSize := 1024, num := .reference }

/-- FREE VALUE (log entry 4). Sign bit and 51 payload bits of the NaN that real operation number `n` produces, if it
produces one (R121, U5). -/
opaque Config.nanBits : Nat → BitVec 52

/-- FREE VALUE (log entry 5). What byte `a` of WAVE's little-endian binding holds before the host writes it (R21, U4,
decision D34). -/
opaque Config.waveInit : Nat → Byte

/-- FREE VALUE (log entry 2). `NUM.cos` of the instantiation `.other id` (U2). -/
opaque Config.otherCos : Nat → F64 → F64

/-- FREE VALUE (log entry 2). `NUM.sin` of the instantiation `.other id` (U2). -/
opaque Config.otherSin : Nat → F64 → F64

/-- FREE VALUE (log entry 3). The reference `NUM.cos` at an infinity or a NaN, which denotes no real number; the CORE
applies it to none of them (R115). -/
opaque Config.cosOutside : F64 → F64

/-- FREE VALUE (log entry 3). The same for the reference `NUM.sin`. -/
opaque Config.sinOutside : F64 → F64

/-- FREE VALUE (log entry 3). Which of two neighbouring data the reference `NUM.cos` is, should the model's computation
not decide its rounding. -/
opaque Config.cosRoundsUp : F64 → Bool

/-- FREE VALUE (log entry 3). The same for the reference `NUM.sin`. -/
opaque Config.sinRoundsUp : F64 → Bool

end Sys2Proof
end

