-- ==== Sys2Proof/Machine/Index.lean ====
section
/-! DEFINITION. Index arithmetic: `lg` and the constant `LGN` (R8, R128, R161), and bit reversal `rev` (R127). -/

namespace Sys2Proof

/-- R128 as an algorithm: count `L` up until `2^L >= n`, with `fuel` doublings at most. -/
def lgFrom : (fuel n L : Nat) → Nat
  | 0, _, L => L
  | fuel + 1, n, L => if n ≤ 2 ^ L then L else lgFrom fuel n (L + 1)

/-- R128: the least `L` with `2^L >= n` (`n` doublings always suffice). -/
def lg (n : Nat) : Nat := lgFrom n n 0

/-- The derived constant `LGN` of an instance (R8, R161). -/
def Config.lgn (c : Config) : Nat := lg c.blockSize

/-- R127: the low `L` binary digits of `i` in reverse order. -/
def rev : (i L : Nat) → Nat
  | _, 0 => 0
  | i, L + 1 => (i % 2) * 2 ^ L + rev (i / 2) L

end Sys2Proof
end

