-- ==== Sys2Proof/Syntax.lean ====
section
/-! DEFINITION. The nine commands of R91, one constructor per row of spec/opcode_table.json. -/

namespace Sys2Proof

/-- A command of the CORE (R91). Only PASS has an operand, the eight bits of ARG (R92). -/
inductive Instr where
  /-- REWIND, `0x01`, R141. -/
  | rewind
  /-- EXTRACT, `0x02`, R142. -/
  | extract
  /-- WINDOW, `0x03`, R152. -/
  | window
  /-- BITREV, `0x04`, R164. -/
  | bitrev
  /-- PASS s, `0x05`, R168. -/
  | pass (s : BitVec 8)
  /-- FFT, `0x06`, R169. -/
  | fft
  /-- PEAK, `0x07`, R193. -/
  | peak
  /-- BLOCK, `0x08`, R194. -/
  | block
  /-- RUN, `0x09`, R195. -/
  | run
deriving DecidableEq, Repr

end Sys2Proof
end

