-- ==== Sys2Proof/WellFormed.lean ====
section
/-! DEFINITION. Which commands an instance accepts: the pass number must satisfy `1 <= s <= LGN` (R91, R92). -/

namespace Sys2Proof

/-- R91, R92: every command but PASS is well formed as it stands; PASS needs `1 <= s <= LGN`. -/
def Instr.wellFormed (c : Config) : Instr → Bool
  | .pass s => decide (1 ≤ s.toNat) && decide (s.toNat ≤ c.lgn)
  | .rewind => true
  | .extract => true
  | .window => true
  | .bitrev => true
  | .fft => true
  | .peak => true
  | .block => true
  | .run => true

end Sys2Proof
end

