-- ==== Sys2Proof/Decode.lean ====
section
/-! DEFINITION. Decoding of command words (R90 to R95), the encoder (R96), and the host's view of the decoder. -/

namespace Sys2Proof

/-- Why a word is ILLEGAL (R94). -/
inductive Illegal where
  /-- Bits 31:16 are not 0. -/
  | zeroField
  /-- PASS with `s = 0` or `s > LGN`. -/
  | passNumber
  /-- Bits 15:8 are not 0 on a command other than PASS (or on a reserved opcode). -/
  | argField
  /-- OPC is `0x00` or `0x0A` to `0xFF`. -/
  | opcode
deriving DecidableEq, Repr

/-- OPC, bits 7:0 (R90). -/
def opcField (c : Word) : BitVec 8 := c.extractLsb' 0 8

/-- ARG, bits 15:8 (R90). -/
def argField (c : Word) : BitVec 8 := c.extractLsb' 8 8

/-- ZERO, bits 31:16 (R90). -/
def zeroField (c : Word) : BitVec 16 := c.extractLsb' 16 16

/-- The opcode map of R91 for the commands without an operand; PASS is handled by `decode`. -/
def decodeOpc (opc : Nat) : Except Illegal Instr :=
  match opc with
  | 0x01 => .ok .rewind
  | 0x02 => .ok .extract
  | 0x03 => .ok .window
  | 0x04 => .ok .bitrev
  | 0x06 => .ok .fft
  | 0x07 => .ok .peak
  | 0x08 => .ok .block
  | 0x09 => .ok .run
  | _ => .error .opcode

/-- R93, in the order of its tests. Total; `cfg` matters through `LGN` only (R95). -/
def decode (cfg : Config) (c : Word) : Except Illegal Instr :=
  if zeroField c ≠ 0 then .error .zeroField
  else if opcField c = 0x05 then
    if 1 ≤ (argField c).toNat ∧ (argField c).toNat ≤ cfg.lgn then .ok (.pass (argField c)) else .error .passNumber
  else if argField c ≠ 0 then .error .argField
  else decodeOpc (opcField c).toNat

/-- R91, R96: the match value of a command, for PASS with `s` in bits 15:8. -/
def encode : Instr → Word
  | .rewind => 0x00000001
  | .extract => 0x00000002
  | .window => 0x00000003
  | .bitrev => 0x00000004
  | .pass s => 0#16 ++ s ++ 0x05#8
  | .fft => 0x00000006
  | .peak => 0x00000007
  | .block => 0x00000008
  | .run => 0x00000009

/-- A command word from the opcode table's numbering: one 32-bit word, bit 0 least significant; bits from `nbits` up
are 0. -/
def tableWord (nbits w : Nat) : Word := BitVec.ofNat 32 (w % 2 ^ nbits)

/-- What the decoder of the default instance reads from a row's word (the host's question). -/
def decodeTableWord (nbits w : Nat) : Option Instr :=
  match decode Config.default (tableWord nbits w) with
  | .ok i => some i
  | .error _ => none

end Sys2Proof
end

