-- ==== Sys2Proof/Machine/State.lean ====
section
/-! DEFINITION. The state of the CORE and its surroundings (R20), the host's pending operations (R77, R99), the reset
state (R47) and the reasons a step can stop. -/

namespace Sys2Proof.Machine

/-- WAVE as byte cells: sample `a` in bytes `2a` (low) and `2a+1` (high), the binding of R65. Log entry 6. -/
abbrev Memory := List Host.Cell

/-- BUF: entry `i` is the `i`-th element of the list, which has `BLOCK_SIZE` elements (R23). Log entry 6. -/
abbrev Buffer := List Cplx

/-- BUF after reset: every entry `(+0.0, +0.0)` (R23). -/
def Buffer.zeros (n : Nat) : Buffer := List.replicate n Cplx.zero

/-- The stages of the sequencer (R43). -/
inductive Stage where
  | idle
  | extract
  | window
  | bitrev
  | pass
  | peak
deriving DecidableEq, Repr

/-- SEQ, the position inside the executing command (R43). -/
structure Seq where
  cmd : Option Word
  stage : Stage
  s : BitVec 5
  i : BitVec 31
  j : BitVec 31
deriving DecidableEq, Repr

/-- The reset value of SEQ, `(none, IDLE, 1, 0, 0)` (R43); the model also leaves it there between commands. -/
def Seq.idle : Seq := { cmd := none, stage := .idle, s := 1, i := 0, j := 0 }

/-- A host operation (R77; R60 for `readWave`). -/
inductive HostOp where
  /-- H1: `WAVE[a] <- h`. -/
  | writeWave (a : Word) (h : Half)
  /-- A host read of `WAVE[a]` (R60). -/
  | readWave (a : Word)
  /-- H2, H3 and every other write of a register: `CSR[n] <- v`. A write of CMD is executed as one atomic transition
  (R15). -/
  | writeCsr (n : Nat) (v : Word)
  /-- H4: `v <- CSR[n]`. -/
  | readCsr (n : Nat)
  /-- H5: BUF location `m` (`2i` is `BUF[i].re`, `2i+1` is `BUF[i].im`). -/
  | writeBuf (m : Nat) (v : F64)
  /-- H6. -/
  | readBuf (m : Nat)
  /-- H7: take the next appended result. -/
  | receive
  /-- H8. -/
  | reset
  /-- H3 once more, `CMD <- c`, but executed by the micro-steps of R44, so that the host can look at STATUS or reset
  before the command has ended. -/
  | beginCmd (c : Word)
  /-- A 32-bit store to the CSR space in a byte-addressed binding (R65), to bytes `4w` to `4w + 3`: the low half of
  register `w / 2` for an even `w`, its high half for an odd one. A store of any other size or place is no whole access
  (R66, R67). -/
  | storeCsr32 (w : Nat) (v : Word)
  /-- A 64-bit store to the CSR space in a byte-addressed binding (R65), to the eight bytes of register `n`. The whole
  entries of WAVE and BUF in such a binding are those of `writeWave` and `writeBuf`. -/
  | storeCsr64 (n : Nat) (v : BitVec 64)
  /-- The host does nothing for one step (an executing command takes one micro-step). -/
  | wait
deriving DecidableEq, Repr

/-- The state. The first part is what R20 lists; the second is the model's own. -/
structure State where
  /-- WAVE (R21). -/
  wave : Memory
  /-- WLEN, CSR 2 (R22). -/
  wlen : Word
  /-- BUF (R23). -/
  buf : Buffer
  /-- LEFT, CSR 5 (R25). -/
  left : Word
  /-- CUR, CSR 6 (R26). -/
  cur : Word
  /-- BV, STATUS bit 1 (R27). -/
  bv : Bool
  /-- EXH, STATUS bit 2 (R29). -/
  exh : Bool
  /-- RES, oldest first (R28). -/
  res : List F64
  /-- RCOUNT, CSR 7 (R30). -/
  rcount : Word
  /-- PKIDX, CSR 8 (R31). -/
  pkidx : Word
  /-- PKMAG, CSR 9 (R31). -/
  pkmag : F64
  /-- FAULT, STATUS bit 3 (R32). -/
  fault : Bool
  /-- CAUSE, STATUS bits 7:4 (R32). -/
  cause : BitVec 4
  /-- FINFO, CSR 10 (R32). -/
  finfo : Word
  /-- BUSY, STATUS bit 0 (R35). -/
  busy : Bool
  /-- SEQ (R43). -/
  seq : Seq
  /-- Datapath register U (R42). -/
  u : Cplx
  /-- Datapath register V (R42). -/
  v : Cplx
  /-- Datapath register RP (R42). -/
  rp : Cplx
  /-- Datapath register W (R42). -/
  w : Cplx
  /-- Datapath register BM (R42). -/
  bm : F64
  /-- Datapath register BI (R42). -/
  bi : Word
  /-- MODEL'S OWN: which instance this is (R6 to R11); no step changes it. Log entry 1. -/
  cfg : Config
  /-- MODEL'S OWN: how many real operations have been performed; names the next free NaN. Log entry 4. -/
  draws : Nat
  /-- MODEL'S OWN: the host's pending operations, oldest first (R99). Log entry 8. -/
  host : List HostOp
  /-- MODEL'S OWN: what the host's reads have returned, oldest first. Log entry 8. -/
  reads : List (BitVec 64)
  /-- MODEL'S OWN: how many elements of RES the host has received (H7). Log entry 8. -/
  taken : Nat
deriving DecidableEq, Repr

/-- Why the machine stops. The two faults of R211 are no stops: the CORE takes them and goes on (R215). -/
inductive Fault where
  /-- Raised by WINELEM (in WINDOW, BLOCK, RUN and the micro-steps of them) when it would read a sample number
  `>= 2^32`, which WAVE does not have (R60). The spec proves that this cannot happen (R76); no state that meets the
  invariant raises it. Safe. Log entry 10. -/
  | waveOutOfSpace
deriving DecidableEq, Repr

/-- Why an instruction has no meaning. -/
inductive Refusal where
  /-- Raised by an arm of `exec` whose instruction has no meaning yet. Safe. No arm of this model raises it. -/
  | notModelled (mnemonic : String)
deriving DecidableEq, Repr

/-- The state right after power-on and reset (R47): the default instance, idle, with nothing placed. U, V, RP, W, BM,
BI are unspecified at reset; the model puts zero there (DESIGN CHOICE, log entry 7). -/
def State.reset : State where
  wave := []
  wlen := 0
  buf := Buffer.zeros Config.default.blockSize
  left := 0
  cur := 0
  bv := false
  exh := false
  res := []
  rcount := 0
  pkidx := 0
  pkmag := 0
  fault := false
  cause := 0
  finfo := 0
  busy := false
  seq := Seq.idle
  u := Cplx.zero
  v := Cplx.zero
  rp := Cplx.zero
  w := Cplx.zero
  bm := 0
  bi := 0
  cfg := Config.default
  draws := 0
  host := []
  reads := []
  taken := 0

end Sys2Proof.Machine
end

