-- ==== Sys2Proof/Machine/Operands.lean ====
section
/-! DEFINITION. The operand of PASS (R92, R168), the effective addresses of every micro-operation (R75), and the host's
BUF locations (R62). -/

namespace Sys2Proof.Machine

/-- `N` of the state's instance. -/
def State.n (s : State) : Nat := s.cfg.blockSize

/-- R92: the pass number, zero-extended. -/
def passNumber (s : BitVec 8) : Nat := s.toNat

/-- `stepLength = 2^s` (R92, R168). -/
def stepLength (p : Nat) : Nat := 2 ^ p

/-- `half = 2^(s-1)` (R168). -/
def halfLength (p : Nat) : Nat := 2 ^ (p - 1)

/-- How many groups pass `p` has: `i = 0, len, 2 len, ... <= N - len` (R168). -/
def groupCount (s : State) (p : Nat) : Nat := s.n / stepLength p

/-- Group number `g` starts at `g * 2^p` (R168). -/
def groupStart (p g : Nat) : Nat := g * stepLength p

/-- R75, WINELEM: base register CUR plus loop index, a natural (R125). -/
def sampleIndex (s : State) (i : Nat) : Nat := s.cur.toNat + i

/-- R75, SWAP: bit-reversed addressing. -/
def swapPartner (s : State) (i : Nat) : Nat := rev i s.cfg.lgn

/-- R75, BFLY: the lower entry, `i + j`. -/
def bflyLow (i j : Nat) : Nat := i + j

/-- R75, BFLY: the upper entry, `i + j + half`. -/
def bflyHigh (p i j : Nat) : Nat := i + j + halfLength p

/-- R62: the entry that host location `m` belongs to. -/
def locEntry (m : Nat) : Nat := m / 2

/-- R62: an even location is the real part, an odd one the imaginary part. -/
def locIsRe (m : Nat) : Bool := decide (m % 2 = 0)

end Sys2Proof.Machine
end

