-- ==== Sys2Proof/Machine/Flags.lean ====
section
/-! DEFINITION. The flags of STATUS (R27, R29, R32, R35, R36) and the tests that set them (R142). -/

namespace Sys2Proof.Machine

/-- R142, R125: `LEFT + BLOCK_SIZE <= WLEN` as naturals, so never wrong by a wrap. -/
def blockFits (s : State) : Bool := decide (s.left.toNat + s.n ≤ s.wlen.toNat)

/-- A flag as a one-bit word. -/
def flagBit (b : Bool) : BitVec 1 := if b then 1 else 0

/-- STATUS (R36): bit 0 BUSY, bit 1 BV, bit 2 EXH, bit 3 FAULT, bits 7:4 CAUSE, bits 31:8 zero. -/
def statusWord (s : State) : Word :=
  0#24 ++ s.cause ++ flagBit s.fault ++ flagBit s.exh ++ flagBit s.bv ++ flagBit s.busy

/-- Cause code 1 (R211). -/
def causeIllegalCmd : BitVec 4 := 1

/-- Cause code 2 (R211). -/
def causeNoBlock : BitVec 4 := 2

/-- The exit test of RUN's loop (R195: `BV = 0`; R44: an ST_EXTRACT leaves `EXH = 1`). Wherever the invariant of R29
holds the two are one test after an EXTRACT. Log entry 11. -/
def runContinues (s : State) : Bool := s.bv && !s.exh

end Sys2Proof.Machine
end

