-- ==== Sys2Proof/Machine/Store.lean ====
section
/-! DEFINITION. Sparse stores: (key, value) pairs with strictly rising keys. WAVE is held so, in one canonical form; BUF
is a list of `BLOCK_SIZE` entries. -/

namespace Sys2Proof.Machine

/-- The value listed at a key, if there is one. -/
def storeGet {α : Type} : List (Nat × α) → Nat → Option α
  | [], _ => none
  | (a, b) :: t, k => if a = k then some b else storeGet t k

/-- List a value at a key, in key order, in place of what was listed there. -/
def storeSet {α : Type} : List (Nat × α) → Nat → α → List (Nat × α)
  | [], k, v => [(k, v)]
  | (a, b) :: t, k, v =>
    if k < a then (k, v) :: (a, b) :: t
    else if k = a then (k, v) :: t
    else (a, b) :: storeSet t k v

/-- Keys strictly rising. -/
def storeSorted {α : Type} : List (Nat × α) → Bool
  | [] => true
  | [_] => true
  | (a, _) :: (c, d) :: t => decide (a < c) && storeSorted ((c, d) :: t)

/-- Every key below a bound. -/
def storeBelow {α : Type} (n : Nat) (m : List (Nat × α)) : Bool := m.all fun p => decide (p.1 < n)

/-- The canonical form of WAVE: bytes in rising order, inside the `2 * 2^32` bytes of the space (R60, R65). An unlisted
byte reads as a free value, which no listed byte can be said to equal, so nothing is ever unlisted. -/
def Memory.wf (m : Memory) : Bool := storeSorted m && storeBelow (2 * 2 ^ 32) m

/-- The form of BUF: exactly `BLOCK_SIZE` entries (R23). -/
def Buffer.wf (n : Nat) (b : Buffer) : Bool := b.length == n

end Sys2Proof.Machine
end

