-- ==== Sys2Proof/Machine/Ops.lean ====
section
/-! DEFINITION. The named operations over memory and registers: MemRead and MemWrite of each space (R61 to R64), fault
entry (R215), reset (R240), loops, and the chaining of outcomes. -/

namespace Sys2Proof.Machine

/-- What a step or a meaning answers. -/
abbrev Result := Host.Outcome State Fault Refusal

/-- Go on from a next state; a stop stays a stop. -/
def andThen (o : Result) (f : State → Result) : Result :=
  match o with
  | .next s => f s
  | .fault r => .fault r
  | .refused r => .refused r

/-- `for i = 0 to n - 1: s <- f i s`, ascending (R13). -/
def loopUp (f : Nat → State → State) : Nat → State → State
  | 0, s => s
  | n + 1, s => f n (loopUp f n s)

/-! ### WAVE (R61, R65) -/

/-- One byte of WAVE's binding: what was written there, else a free value (R21, U4). -/
def waveByte (m : Memory) (a : Nat) : Byte := (storeGet m a).getD (Config.waveInit a)

/-- `MemRead(WAVE, a)`: sample `a`, low byte at `2a`, high byte at `2a + 1`. -/
def waveRead (m : Memory) (a : Nat) : Half := waveByte m (2 * a + 1) ++ waveByte m (2 * a)

/-- `WAVE[a] <- h` (H1). -/
def waveWrite (m : Memory) (a : Nat) (h : Half) : Memory :=
  storeSet (storeSet m (2 * a) (h.extractLsb' 0 8)) (2 * a + 1) (h.extractLsb' 8 8)

/-! ### BUF (R62) -/

/-- `MemRead(BUF, i)`, for `i < BLOCK_SIZE` (no micro-operation reads elsewhere, R76). -/
def bufRead (b : Buffer) (i : Nat) : Cplx := b.getD i Cplx.zero

/-- `MemWrite(BUF, i, z)`. -/
def bufWrite (b : Buffer) (i : Nat) (z : Cplx) : Buffer := b.set i z

/-- A host read of BUF location `m` (R62): 0 beyond the last. -/
def bufReadLoc (n : Nat) (b : Buffer) (m : Nat) : F64 :=
  if m < 2 * n then (if locIsRe m then (bufRead b (locEntry m)).re else (bufRead b (locEntry m)).im) else 0

/-- A host write of BUF location `m` (R62): ignored beyond the last. -/
def bufWriteLoc (n : Nat) (b : Buffer) (m : Nat) (v : F64) : Buffer :=
  if m < 2 * n then
    bufWrite b (locEntry m)
      (if locIsRe m then { bufRead b (locEntry m) with re := v } else { bufRead b (locEntry m) with im := v })
  else b

/-! ### RES (R63) -/

/-- `RES.append(r)`. -/
def resAppend (r : F64) (s : State) : State := { s with res := s.res ++ [r] }

/-! ### Taking a fault (R215) and the only return from one (R217, R240) -/

/-- `raise Fault(cause, info)`: FAULT, CAUSE, FINFO; the command ends. -/
def raiseFault (cause : BitVec 4) (info : Word) (s : State) : State :=
  { s with fault := true, cause := cause, finfo := info, busy := false, seq := Seq.idle }

/-- Reset (R240, R47): every element at its reset value; WAVE and the configuration stay, and so does what belongs to
the host (its pending operations and what it has read). `draws` runs on, so that no NaN is drawn twice. -/
def resetCore (s : State) : State :=
  { State.reset with buf := Buffer.zeros s.cfg.blockSize, wave := s.wave, cfg := s.cfg, draws := s.draws, host := s.host, reads := s.reads }

/-! ### CSRs (R40, R41, R64) -/

/-- A host read of a register: 32-bit registers zero-extended; CMD and numbers from 11 up read 0. -/
def csrRead (s : State) (k : Nat) : BitVec 64 :=
  match k with
  | 0 => BitVec.ofNat 64 s.cfg.blockSize
  | 1 => BitVec.ofNat 64 s.cfg.stepSize
  | 2 => s.wlen.setWidth 64
  | 3 => 0
  | 4 => (statusWord s).setWidth 64
  | 5 => s.left.setWidth 64
  | 6 => s.cur.setWidth 64
  | 7 => s.rcount.setWidth 64
  | 8 => s.pkidx.setWidth 64
  | 9 => s.pkmag
  | 10 => s.finfo.setWidth 64
  | _ => 0

/-- Byte `o` of the CSR space in a byte-addressed binding (R65): eight bytes a register, least significant first. -/
def csrByte (s : State) (o : Nat) : Byte := (csrRead s (o / 8)).extractLsb' (8 * (o % 8)) 8

/-- Byte `o` of the BUF space in a byte-addressed binding (R65): eight bytes a location, least significant first. -/
def bufByte (s : State) (o : Nat) : Byte := (bufReadLoc s.n s.buf (o / 8)).extractLsb' (8 * (o % 8)) 8

end Sys2Proof.Machine
end

