-- ==== Sys2Proof/Machine/Extractor.lean ====
section
/-! DEFINITION. Block Extractor: REWIND, EXTRACT, and the WLEN write (R140 to R145). -/

namespace Sys2Proof.Machine

/-- R141: LEFT, CUR, BV, EXH to 0. -/
def rewindOp (s : State) : State := { s with left := 0, cur := 0, bv := false, exh := false }

/-- R142: yield the next block if there is one. -/
def extractOp (s : State) : State :=
  if s.exh then s
  else if blockFits s then
    { s with cur := s.left, bv := true, left := s.left + BitVec.ofNat 32 s.cfg.stepSize }
  else { s with bv := false, exh := true }

/-- R143: a host write of WLEN declares a new length and rewinds. -/
def wlenWrite (v : Word) (s : State) : State :=
  { s with wlen := v, left := 0, cur := 0, bv := false, exh := false }

/-- REWIND (R141). -/
def execRewind (s : State) : Result := .next (rewindOp s)

/-- EXTRACT (R142). -/
def execExtract (s : State) : Result := .next (extractOp s)

end Sys2Proof.Machine
end

