-- ==== Sys2Proof/Machine/Real.lean ====
section
/-! DEFINITION. Real arithmetic of the CORE (R110 to R114, R117, R121 to R123): IEEE 754 binary64 with
roundTiesToEven, by computing exactly on integers and rounding once. Every finite datum is an integer multiple of
`2^-1074`; that integer is its number of UNITS. -/

namespace Sys2Proof

/-! ### Format (R110) -/

/-- The sign bit, bit 63. -/
def signBit (a : F64) : Bool := a.msb

/-- Bits 62:0 as a number: exponent and fraction together. -/
def magBits (a : F64) : Nat := a.toNat % 2 ^ 63

/-- Bits 62:0 of an infinity. -/
def infMag : Nat := 0x7FF0000000000000

def isNaN (a : F64) : Bool := decide (infMag < magBits a)

def isInf (a : F64) : Bool := decide (magBits a = infMag)

/-- Neither an infinity nor a NaN. -/
def isFinite (a : F64) : Bool := decide (magBits a < infMag)

/-- A datum from its sign and bits 62:0. -/
def pack (neg : Bool) (mag : Nat) : F64 := BitVec.ofNat 64 ((if neg then 2 ^ 63 else 0) + mag)

/-- The same magnitude with the other sign (a NaN stays a NaN). -/
def flipSign (a : F64) : F64 := a ^^^ 0x8000000000000000

/-- The magnitude of a finite datum in units of `2^-1074`: subnormals and zeros are their fraction, normal numbers
their 53-bit significand shifted by the exponent. -/
def units (a : F64) : Nat :=
  if magBits a / 2 ^ 52 = 0 then magBits a % 2 ^ 52
  else (2 ^ 52 + magBits a % 2 ^ 52) * 2 ^ (magBits a / 2 ^ 52 - 1)

/-- The value of a finite datum in units. -/
def signedUnits (a : F64) : Int := if signBit a then -(units a : Int) else (units a : Int)

/-! ### Rounding (R113) -/

/-- `n / d` rounded to an integer, ties to even. -/
def divEven (n d : Nat) : Nat :=
  if 2 * (n % d) < d then n / d
  else if d < 2 * (n % d) then n / d + 1
  else n / d + n / d % 2

/-- Bits 62:0 of the binary64 nearest to `num / den` units, ties to even, overflow to infinity, gradual underflow.
With `k` the number of low bits that do not fit into a 53-bit significand, the rounded significand `q` and `k`
together give the bits as `k * 2^52 + q`: a significand that rounds up to `2^53` carries into the exponent. -/
def roundMag (num den : Nat) : Nat :=
  let k := Nat.log2 (num / den) - 52
  min (k * 2 ^ 52 + divEven num (den * 2 ^ k)) infMag

/-- An exact nonzero sum, rounded. -/
def roundInt (x : Int) : F64 := pack (decide (x < 0)) (roundMag x.natAbs 1)

/-- The NaN produced by real operation number `d`: quiet, with a free sign and payload (R121, U5). -/
def qnan (d : Nat) : F64 :=
  (Config.nanBits d).extractLsb' 51 1 ++ 0xFFF#12 ++ (Config.nanBits d).extractLsb' 0 51

/-! ### Operations. The first argument is the number of the operation, used only to name a NaN it produces. -/

/-- R113 addition. -/
def fadd (d : Nat) (a b : F64) : F64 :=
  if isNaN a || isNaN b then qnan d
  else if isInf a then (if isInf b && signBit a != signBit b then qnan d else a)
  else if isInf b then b
  else if signedUnits a + signedUnits b = 0 then pack (signBit a && signBit b) 0
  else roundInt (signedUnits a + signedUnits b)

/-- R113 subtraction: addition of the operand with the other sign. -/
def fsub (d : Nat) (a b : F64) : F64 := fadd d a (flipSign b)

/-- R113 multiplication. -/
def fmul (d : Nat) (a b : F64) : F64 :=
  if isNaN a || isNaN b then qnan d
  else if isInf a || isInf b then
    (if units a = 0 || units b = 0 then qnan d else pack (signBit a != signBit b) infMag)
  else pack (signBit a != signBit b) (roundMag (units a * units b) (2 ^ 1074))

/-- R113 division. -/
def fdiv (d : Nat) (a b : F64) : F64 :=
  if isNaN a || isNaN b then qnan d
  else if isInf a then (if isInf b then qnan d else pack (signBit a != signBit b) infMag)
  else if isInf b then pack (signBit a != signBit b) 0
  else if units b = 0 then
    (if units a = 0 then qnan d else pack (signBit a != signBit b) infMag)
  else pack (signBit a != signBit b) (roundMag (units a * 2 ^ 1074) (units b))

/-- The integer square root of `n < 4 ^ fuel`, two binary digits of `n` a step. -/
def isqrt : (fuel n : Nat) → Nat
  | 0, _ => 0
  | fuel + 1, n =>
    let r := 2 * isqrt fuel (n / 4)
    if (r + 1) * (r + 1) ≤ n then r + 1 else r

/-- Bits 62:0 of the correctly rounded square root of `n > 0` units. The root in units is the root of
`m = n * 2^1074`; `r` is the root of `m`'s leading digits, at least 64 bits of it, and the lowest bit of `2 * r + 1`
stands for everything below it. -/
def sqrtMag (n : Nat) : Nat :=
  let m := n * 2 ^ 1074
  let t := (Nat.log2 m - 128) / 2
  let r := isqrt 66 (m / 4 ^ t)
  roundMag ((if r * r * 4 ^ t = m then 2 * r else 2 * r + 1) * 2 ^ t) 2

/-- R114 square root. The CORE applies it to no negative operand; IEEE 754 makes those NaN and `-0.0` itself. -/
def fsqrt (d : Nat) (a : F64) : F64 :=
  if isNaN a then qnan d
  else if magBits a = 0 then a
  else if signBit a then qnan d
  else if isInf a then a
  else pack false (sqrtMag (units a))

/-- R117: the quiet less-than. An infinity's bits, read as a number, exceed every finite datum's units. -/
def flt (a b : F64) : Bool :=
  !isNaN a && !isNaN b && decide (signedUnits a < signedUnits b)

/-! ### Conversions (R112) and constants (R111) -/

/-- `ofNat(m)`, exact for `m < 2^53`. -/
def ofNat (m : Nat) : F64 := pack false (roundMag (m * 2 ^ 1074) 1)

/-- `ofInt16(k)` of a sample word, exact; `ofInt16(0) = +0.0`. -/
def ofInt16 (h : Half) : F64 := pack (decide (h.toInt < 0)) (roundMag (h.toInt.natAbs * 2 ^ 1074) 1)

def fZero : F64 := 0x0000000000000000
def fOne : F64 := 0x3FF0000000000000
def fHalf : F64 := 0x3FE0000000000000
def fTwo : F64 := 0x4000000000000000
def fPi : F64 := 0x400921FB54442D18
def fTwoPi : F64 := 0x401921FB54442D18

end Sys2Proof
end

