-- ==== Sys2Proof/Machine/Complex.lean ====
section
/-! DEFINITION. Complex arithmetic (R118 to R120). The first argument is the number of the first real operation. -/

namespace Sys2Proof

/-- `(1.0, +0.0)`, where RP starts (R167, R168). -/
def Cplx.one : Cplx := ⟨fOne, fZero⟩

/-- R118: two real operations. -/
def cadd (d : Nat) (a b : Cplx) : Cplx := ⟨fadd d a.re b.re, fadd (d + 1) a.im b.im⟩

/-- R118: two real operations. -/
def csub (d : Nat) (a b : Cplx) : Cplx := ⟨fsub d a.re b.re, fsub (d + 1) a.im b.im⟩

/-- R119: the textbook product, six real operations, none fused. -/
def cmul (d : Nat) (a b : Cplx) : Cplx :=
  ⟨fsub (d + 2) (fmul d a.re b.re) (fmul (d + 1) a.im b.im),
   fadd (d + 5) (fmul (d + 3) a.re b.im) (fmul (d + 4) a.im b.re)⟩

/-- R120: `fsqrt(fadd(fmul(re, re), fmul(im, im)))`, four real operations. -/
def cmag (d : Nat) (z : Cplx) : F64 :=
  fsqrt (d + 3) (fadd (d + 2) (fmul d z.re z.re) (fmul (d + 1) z.im z.im))

end Sys2Proof
end

