-- ==== Sys2Proof/Machine/Trig.lean ====
section
/-! DEFINITION. `NUM.cos` and `NUM.sin` (R115, R116): the reference instantiation, correct rounding for every finite
operand, computed by reduction to the first quadrant and a Taylor series in fixed point, and checked by rounding both
ends of an error interval; any other instantiation is a free function. Log entries 2 and 3. -/

namespace Sys2Proof

/-- Fractional bits of the fixed-point numbers below. -/
def fixBits : Nat := 320

/-- `t - t x^2/((k+1)(k+2)) + ...`, `fuel` terms, with `x2 = x^2` and the first term `t = x^k/k!`, all in fixed point. -/
def taylor (x2 : Nat) : (fuel k t : Nat) → Int
  | 0, _, _ => 0
  | fuel + 1, k, t => (t : Int) - taylor x2 fuel (k + 2) (t * x2 / 2 ^ fixBits / ((k + 1) * (k + 2)))

/-! ### Reduction to the first quadrant -/

/-- Fractional bits of `halfPi`: enough that `2^1024` multiples of it are still known to `2^-384`. -/
def piBits : Nat := 1408

/-- `pi / 2` with `piBits` fractional bits, rounded down. `Laws/Trig.lean` computes it by Machin's formula. -/
def halfPi : Nat :=
  0x1 * 2 ^ 1408 +
    0x921FB54442D18469898CC51701B839A252049C1114CF98E804177D4C76273644A29410F31C6809BBDF2A3367 * 2 ^ 1056 +
    0x9A748636605614DBE4BE286E9FC26ADADAA3848BC90B6AECC4BCFD8DE89885D34C6FDAD617FEB96DE80D6FDB * 2 ^ 704 +
    0xDC70D7F6B5133F4B5D3E4822F8963FCC9250CCA3D9C8B67B8400F97142C77E0B31B4906C38ABA734D22C7F51 * 2 ^ 352 +
    0xFA499EBF06CABA47B9475B2C38C5E6AC410AA5773DAA520EE12D2CDACE186A9C95793009E2E8D811943042F8

/-- A finite datum's magnitude with `piBits` fractional bits, exactly. -/
def wideFix (a : F64) : Nat := units a * 2 ^ (piBits - 1074)

/-- How many whole quarter turns a finite datum's magnitude holds. -/
def quadrant (a : F64) : Nat := wideFix a / halfPi

/-- What is left of the magnitude after them, in fixed point: below a quarter turn. -/
def reduced (a : F64) : Nat := wideFix a % halfPi / 2 ^ (piBits - fixBits)

/-- Cosine and sine of a fixed-point number below a quarter turn. -/
def cosSeries (r : Nat) : Int := taylor (r * r / 2 ^ fixBits) 48 0 (2 ^ fixBits)

def sinSeries (r : Nat) : Int := taylor (r * r / 2 ^ fixBits) 48 1 r

/-- The cosine of `r` plus `q` quarter turns. -/
def cosTurned (q r : Nat) : Int :=
  match q % 4 with
  | 0 => cosSeries r
  | 1 => -sinSeries r
  | 2 => -cosSeries r
  | _ => sinSeries r

/-- The cosine of a finite datum, in fixed point. -/
def cosFixed (a : F64) : Int := cosTurned (quadrant a) (reduced a)

/-- The sine of a finite datum, in fixed point: the cosine three quarter turns on, with the datum's sign. -/
def sinFixed (a : F64) : Int := (if signBit a then -1 else 1) * cosTurned (quadrant a + 3) (reduced a)

/-! ### Rounding, with a check -/

/-- A fixed-point number rounded to binary64 (R113). -/
def roundFix (y : Int) : F64 := pack (decide (y < 0)) (roundMag (y.natAbs * 2 ^ 1074) (2 ^ fixBits))

/-- Bound on the error of `cosFixed` and `sinFixed` in units of `2^-320`, generous (log entry 3). -/
def fixErr : Int := 2 ^ 60

/-- Every number within `fixErr` of `y` rounds to one datum. -/
def decided (y : Int) : Bool := roundFix (y - fixErr) == roundFix (y + fixErr)

/-- The datum nearest to a number known to lie within `fixErr` of `y`. Should the two ends of that interval round to
different data, which is known of no binary64 operand, it is one of the two, and which one is free. -/
def roundChecked (y : Int) (up : Bool) : F64 :=
  if decided y then roundFix (y - fixErr) else if up then roundFix (y + fixErr) else roundFix (y - fixErr)

/-- The correctly rounded cosine (reference instantiation, R115); an infinity or a NaN denotes no real number, and the
value there is free. -/
def refCos (a : F64) : F64 :=
  if isFinite a then roundChecked (cosFixed a) (Config.cosRoundsUp a) else Config.cosOutside a

/-- The correctly rounded sine (reference instantiation, R115). Below `2^-27` the sine rounds to its operand. -/
def refSin (a : F64) : F64 :=
  if isFinite a then
    (if units a < 2 ^ 1047 then a else roundChecked (sinFixed a) (Config.sinRoundsUp a))
  else Config.sinOutside a

/-- `NUM.cos` of the instance (R115). -/
def numCos (c : Config) (a : F64) : F64 :=
  match c.num with
  | .reference => refCos a
  | .other k => Config.otherCos k a

/-- `NUM.sin` of the instance (R115). -/
def numSin (c : Config) (a : F64) : F64 :=
  match c.num with
  | .reference => refSin a
  | .other k => Config.otherSin k a

/-- `tang(s) = fdiv(TWO_PI, ofNat(2^s))` (R116). -/
def tang (d s : Nat) : F64 := fdiv d fTwoPi (ofNat (2 ^ s))

/-- The twiddle `W(s)` (R116). -/
def twiddleOf (c : Config) (d s : Nat) : Cplx := ⟨numCos c (tang d s), numSin c (tang d s)⟩

/-- `ang(i) = fdiv(fmul(TWO_PI, ofNat(i)), ofNat(N - 1))` (R151). -/
def hannAngle (c : Config) (d i : Nat) : F64 :=
  fdiv (d + 1) (fmul d fTwoPi (ofNat i)) (ofNat (c.blockSize - 1))

/-- `h(i) = fmul(HALF, fsub(ONE, NUM.cos(ang(i))))` (R151): four real operations. -/
def hann (c : Config) (d i : Nat) : F64 :=
  fmul (d + 3) fHalf (fsub (d + 2) fOne (numCos c (hannAngle c d i)))

end Sys2Proof
end

