-- ==== Sys2Proof/Machine/FftEngine.lean ====
section
/-! DEFINITION. FFT Engine: SWAP, TWIDDLE, BFLY, RPMUL; BITREV, PASS, FFT (R160 to R172). -/

namespace Sys2Proof.Machine

/-- R163: exchange entries `i` and `rev(i, L)`, once per pair; both reads before both writes. -/
def swapOp (i : Nat) (s : State) : State :=
  if i < swapPartner s i then
    { s with buf := bufWrite (bufWrite s.buf i (bufRead s.buf (swapPartner s i))) (swapPartner s i) (bufRead s.buf i) }
  else s

/-- R165: `W <- (NUM.cos(tang(s)), NUM.sin(tang(s)))`; one real operation. -/
def twiddleOp (p : Nat) (s : State) : State :=
  { s with w := twiddleOf s.cfg s.draws p, draws := s.draws + 1 }

/-- The start of a group: RP restarts at `(1.0, +0.0)` (R168). -/
def startGroup (s : State) : State := { s with rp := Cplx.one }

/-- R166: the butterfly on entries `p` and `q`, ten real operations; both reads before both writes. -/
def bflyOp (p q : Nat) (s : State) : State :=
  { s with
    u := bufRead s.buf p
    v := cmul s.draws (bufRead s.buf q) s.rp
    buf :=
      bufWrite
        (bufWrite s.buf p (cadd (s.draws + 6) (bufRead s.buf p) (cmul s.draws (bufRead s.buf q) s.rp)))
        q (csub (s.draws + 8) (bufRead s.buf p) (cmul s.draws (bufRead s.buf q) s.rp))
    draws := s.draws + 10 }

/-- R167: `RP <- cmul(RP, W)`, six real operations. -/
def rpMulOp (s : State) : State := { s with rp := cmul s.draws s.rp s.w, draws := s.draws + 6 }

/-- One turn of the inner loop of R168: BFLY, then RPMUL. -/
def bflyTurn (p i j : Nat) (s : State) : State := rpMulOp (bflyOp (bflyLow i j) (bflyHigh p i j) s)

/-- The group of pass `p` that starts at `i` (R168). -/
def groupOp (p i : Nat) (s : State) : State := loopUp (bflyTurn p i) (halfLength p) (startGroup s)

/-- The body of PASS `p` (R168), for `1 <= p <= L`. -/
def passOp (p : Nat) (s : State) : State :=
  loopUp (fun g => groupOp p (groupStart p g)) (groupCount s p) (twiddleOp p s)

/-- The loop of BITREV (R164). -/
def bitrevOp (s : State) : State := loopUp swapOp s.n s

/-- R169: BITREV, then PASS 1 to PASS L. -/
def fftOp (s : State) : State := loopUp (fun k => passOp (k + 1)) s.cfg.lgn (bitrevOp s)

/-- BITREV (R164). -/
def execBitrev (s : State) : Result := .next (bitrevOp s)

/-- PASS (R168). A pass number out of range is ILLEGAL_CMD (R94, R168, R212): the decoder lets none through. -/
def execPass (p : BitVec 8) (s : State) : Result :=
  if 1 ≤ passNumber p ∧ passNumber p ≤ s.cfg.lgn then .next (passOp (passNumber p) s)
  else .next (raiseFault causeIllegalCmd (encode (.pass p)) s)

/-- FFT (R169). -/
def execFft (s : State) : Result := .next (fftOp s)

end Sys2Proof.Machine
end

