-- ==== Sys2Proof/Machine/Windower.lean ====
section
/-! DEFINITION. Windower: WINELEM and WINDOW (R150 to R153). -/

namespace Sys2Proof.Machine

/-- R151, the real part WINELEM writes: `fmul(ofInt16(x), h(i))`, the last of its five real operations. -/
def winValue (c : Config) (d i : Nat) (x : Half) : F64 := fmul (d + 4) (ofInt16 x) (hann c d i)

/-- R151, R153: WINELEM `i`; the imaginary part is exactly `+0.0`. -/
def winElem (i : Nat) (s : State) : State :=
  { s with
    buf := bufWrite s.buf i ⟨winValue s.cfg s.draws i (waveRead s.wave (sampleIndex s i)), fZero⟩
    draws := s.draws + 5 }

/-- The loop of WINDOW (R152). It stops if the block would leave the WAVE space, which R76 excludes (log entry 10). -/
def windowOp (s : State) : Result :=
  if s.cur.toNat + s.n ≤ 2 ^ 32 then .next (loopUp winElem s.n s) else .fault .waveOutOfSpace

/-- WINDOW (R152): NO_BLOCK when BV = 0, with nothing else changed (R213). -/
def execWindow (s : State) : Result :=
  if s.bv then windowOp s else .next (raiseFault causeNoBlock (encode .window) s)

end Sys2Proof.Machine
end

