-- ==== Sys2Proof/Machine/Aggregator.lean ====
section
/-! DEFINITION. Block Aggregator: MAG, CMPSEL; PEAK, BLOCK, RUN (R190 to R198). -/

namespace Sys2Proof.Machine

/-- R193: `BI <- 0; BM <- cmag(BUF[0])`, four real operations. -/
def scanStart (s : State) : State :=
  { s with bi := 0, bm := cmag s.draws (bufRead s.buf 0), draws := s.draws + 4 }

/-- R191, R192: MAG `k`, then CMPSEL with the strict comparison; four real operations. -/
def scanStep (k : Nat) (s : State) : State :=
  if flt s.bm (cmag s.draws (bufRead s.buf k)) then
    { s with bi := BitVec.ofNat 32 k, bm := cmag s.draws (bufRead s.buf k), draws := s.draws + 4 }
  else { s with draws := s.draws + 4 }

/-- R193: the loop `k = 1 .. N - 1`. -/
def scanOp (s : State) : State := loopUp (fun k => scanStep (k + 1)) (s.n - 1) (scanStart s)

/-- R193, after the loop: append BM to RES (R63), PKMAG, PKIDX, and RCOUNT + 1 mod 2^32 (R126). -/
def peakCommit (s : State) : State :=
  { resAppend s.bm s with pkmag := s.bm, pkidx := s.bi, rcount := s.rcount + 1 }

/-- The whole of PEAK (R193). -/
def peakOp (s : State) : State := peakCommit (scanOp s)

/-- What BLOCK and RUN do with a block: WINDOW, FFT, PEAK (R194, R195). -/
def pipelineOp (s : State) : Result := andThen (windowOp s) fun t => .next (peakOp (fftOp t))

/-- R195's loop, at most `fuel` turns. -/
def runLoop : Nat → State → Result
  | 0, s => .next s
  | fuel + 1, s =>
    if runContinues (extractOp s) then andThen (pipelineOp (extractOp s)) (runLoop fuel)
    else .next (extractOp s)

/-- How many turns are always enough: each that goes on finds `LEFT + N <= WLEN` and raises LEFT (R196). -/
def runFuel (s : State) : Nat := s.wlen.toNat + 1

/-- PEAK (R193). -/
def execPeak (s : State) : Result := .next (peakOp s)

/-- BLOCK (R194). -/
def execBlock (s : State) : Result :=
  if (extractOp s).bv then pipelineOp (extractOp s) else .next (extractOp s)

/-- RUN (R195). -/
def execRun (s : State) : Result := runLoop (runFuel s) s

end Sys2Proof.Machine
end

