-- ==== Sys2Proof/Machine/Dispatch.lean ====
section
/-! DEFINITION. One arm per command. -/

namespace Sys2Proof.Machine

def exec (i : Instr) (s : State) : Host.Outcome State Fault Refusal :=
  match i with
  | .rewind => Sys2Proof.Machine.execRewind s
  | .extract => Sys2Proof.Machine.execExtract s
  | .window => Sys2Proof.Machine.execWindow s
  | .bitrev => Sys2Proof.Machine.execBitrev s
  | .pass p => Sys2Proof.Machine.execPass p s
  | .fft => Sys2Proof.Machine.execFft s
  | .peak => Sys2Proof.Machine.execPeak s
  | .block => Sys2Proof.Machine.execBlock s
  | .run => Sys2Proof.Machine.execRun s

end Sys2Proof.Machine
end

