-- ==== Sys2Proof/Machine/Sequencer.lean ====
section
/-! DEFINITION. The sequencer's micro-step view of a command (R43, R44): how SEQ advances while BUSY = 1. One micro-step
is one turn of a loop of the command's pseudocode. Log entry 9. -/

namespace Sys2Proof.Machine

/-- The command SEQ is executing. -/
def seqInstr (s : State) : Option Instr :=
  match s.seq.cmd with
  | none => none
  | some c =>
    match decode s.cfg c with
    | .ok i => some i
    | .error _ => none

/-- Go to a stage, pass number `p`, indices at 0. What a stage does not use (`s` outside ST_PASS, `i` and `j` in
ST_EXTRACT, `j` outside ST_PASS) R43 leaves without a value: DESIGN CHOICE, callers pass 1 for `s`, and the indices are 0
(log entry 9). -/
def enterStage (st : Stage) (p : Nat) (s : State) : State :=
  { s with seq := { cmd := s.seq.cmd, stage := st, s := BitVec.ofNat 5 p, i := 0, j := 0 } }

/-- Stay in the stage at other indices. -/
def setIndices (i j : Nat) (s : State) : State :=
  { s with seq := { s.seq with i := BitVec.ofNat 31 i, j := BitVec.ofNat 31 j } }

/-- The command's last micro-operation is done: BUSY <- 0, SEQ <- (none, IDLE, ...) (R44). -/
def finishCmd (s : State) : State := { s with busy := false, seq := Seq.idle }

/-- The first stage of a command (R44, table). -/
def firstStage : Instr → Stage
  | .rewind => .extract
  | .extract => .extract
  | .window => .window
  | .bitrev => .bitrev
  | .pass _ => .pass
  | .fft => .bitrev
  | .peak => .peak
  | .block => .extract
  | .run => .extract

/-- The pass number a command enters its first stage with: PASS's own; 1 for every other, where the first stage does not
use it and R43 gives no value (DESIGN CHOICE, log entry 9). -/
def firstPass : Instr → Nat
  | .pass p => passNumber p
  | .rewind => 1
  | .extract => 1
  | .window => 1
  | .bitrev => 1
  | .fft => 1
  | .peak => 1
  | .block => 1
  | .run => 1

/-- Acceptance of command word `c` that decodes to `i` (R44): SEQ.cmd <- c, BUSY <- 1, the first stage, indices at 0 (a
DESIGN CHOICE for those the stage does not use, log entry 9). -/
def acceptCmd (c : Word) (i : Instr) (s : State) : State :=
  { s with
    busy := true
    seq := { cmd := some c, stage := firstStage i, s := BitVec.ofNat 5 (firstPass i), i := 0, j := 0 } }

/-- ST_EXTRACT: REWIND's or EXTRACT's one step, and where BLOCK and RUN go from there. -/
def microExtract (s : State) : State :=
  match seqInstr s with
  | some .rewind => finishCmd (rewindOp s)
  | some .block =>
    if (extractOp s).bv then enterStage .window 1 (extractOp s) else finishCmd (extractOp s)
  | some .run =>
    if runContinues (extractOp s) then enterStage .window 1 (extractOp s) else finishCmd (extractOp s)
  | _ => finishCmd (extractOp s)

/-- BLOCK and RUN, which run every stage of the pipeline. -/
def isPipeline (s : State) : Bool := seqInstr s == some .block || seqInstr s == some .run

/-- After ST_WINDOW: BLOCK and RUN go on to ST_BITREV. -/
def afterWindow (s : State) : State := if isPipeline s then enterStage .bitrev 1 s else finishCmd s

/-- After ST_BITREV: all but BITREV go on to pass 1. -/
def afterBitrev (s : State) : State :=
  if isPipeline s || seqInstr s == some .fft then enterStage .pass 1 s else finishCmd s

/-- After pass `p`: the next pass if there is one (but for PASS itself), then ST_PEAK for BLOCK and RUN. -/
def afterPass (p : Nat) (s : State) : State :=
  if isPipeline s || seqInstr s == some .fft then
    if p < s.cfg.lgn then enterStage .pass (p + 1) s
    else if isPipeline s then enterStage .peak 1 s else finishCmd s
  else finishCmd s

/-- After ST_PEAK: RUN goes back to ST_EXTRACT. -/
def afterPeak (s : State) : State :=
  if seqInstr s == some .run then enterStage .extract 1 s else finishCmd s

/-- ST_WINDOW at index `i`. -/
def microWindow (i : Nat) (s : State) : Result :=
  if sampleIndex s i < 2 ^ 32 then
    if i + 1 < s.n then .next (setIndices (i + 1) 0 (winElem i s)) else .next (afterWindow (winElem i s))
  else .fault .waveOutOfSpace

/-- ST_BITREV at index `i`. -/
def microBitrev (i : Nat) (s : State) : State :=
  if i + 1 < s.n then setIndices (i + 1) 0 (swapOp i s) else afterBitrev (swapOp i s)

/-- TWIDDLE at the start of a pass, RP at the start of a group, then BFLY and RPMUL (R44, R168). -/
def microTurn (p i j : Nat) (s : State) : State :=
  bflyTurn p i j (if j = 0 then startGroup (if i = 0 then twiddleOp p s else s) else s)

/-- ST_PASS at pass `p`, group start `i`, offset `j`. -/
def microPass (p i j : Nat) (s : State) : State :=
  if j + 1 < halfLength p then setIndices i (j + 1) (microTurn p i j s)
  else if i + stepLength p < s.n then setIndices (i + stepLength p) 0 (microTurn p i j s)
  else afterPass p (microTurn p i j s)

/-- ST_PEAK at index `k`: MAG and CMPSEL; the last one also appends. -/
def microPeak (k : Nat) (s : State) : State :=
  if k + 1 < s.n then setIndices (k + 1) 0 (if k = 0 then scanStart s else scanStep k s)
  else afterPeak (peakCommit (if k = 0 then scanStart s else scanStep k s))

/-- One micro-step of the CORE while BUSY = 1 (R44). -/
def microStep (s : State) : Result :=
  match s.seq.stage with
  | .idle => .next (finishCmd s)
  | .extract => .next (microExtract s)
  | .window => microWindow s.seq.i.toNat s
  | .bitrev => .next (microBitrev s.seq.i.toNat s)
  | .pass => .next (microPass s.seq.s.toNat s.seq.i.toNat s.seq.j.toNat s)
  | .peak => .next (microPeak s.seq.i.toNat s)

end Sys2Proof.Machine
end

