-- ==== Sys2Proof/Machine/HostPort.lean ====
section
/-! DEFINITION. The host's side: acceptance of a command (R214), the host operations H1 to H8 (R77), what is held while
a command executes (R73), and how a command word is placed for the next step. -/

namespace Sys2Proof.Machine

/-- R214: a write of word `c` to CMD, executed as one atomic transition (R15): discarded while FAULT = 1, ILLEGAL_CMD
when `c` decodes to nothing, else the command (WINDOW's meaning raises NO_BLOCK itself). -/
def cmdWrite (c : Word) (s : State) : Result :=
  if s.fault then .next s
  else
    match decode s.cfg c with
    | .error _ => .next (raiseFault causeIllegalCmd c s)
    | .ok i => exec i s

/-- R214 and R44: the same write, taken up by the sequencer. -/
def cmdBegin (c : Word) (s : State) : State :=
  if s.fault then s
  else
    match decode s.cfg c with
    | .error _ => raiseFault causeIllegalCmd c s
    | .ok .window => if s.bv then acceptCmd c .window s else raiseFault causeNoBlock c s
    | .ok i => acceptCmd c i s

/-- R40, R41, R64: a host write of a register. Only WLEN and CMD take one; every other write is ignored. -/
def csrWrite (k : Nat) (v : Word) (s : State) : Result :=
  match k with
  | 2 => .next (wlenWrite v s)
  | 3 => cmdWrite v s
  | _ => .next s

/-- R65: a 32-bit store at byte `4w` of the CSR space. The low four bytes of a register's eight are the register; the
high four ignore writes. -/
def csrStore32 (w : Nat) (v : Word) (s : State) : Result :=
  if w % 2 = 0 then csrWrite (w / 2) v s else .next s

/-- R65: a 64-bit store at byte `8n` of the CSR space: the low four bytes are written, the high four ignored. Of the
registers the host can write (R40) none is wider than 32 bits. -/
def csrStore64 (n : Nat) (v : BitVec 64) (s : State) : Result := csrWrite n (v.setWidth 32) s

/-- The register and the value that a host operation writes, if it writes one. -/
def registerWrite (op : HostOp) : Option (Nat × Word) :=
  match op with
  | .writeCsr n v => some (n, v)
  | .storeCsr32 w v => if w % 2 = 0 then some (w / 2, v) else none
  | .storeCsr64 n v => some (n, v.setWidth 32)
  | .writeWave _ _ => none
  | .readWave _ => none
  | .readCsr _ => none
  | .writeBuf _ _ => none
  | .readBuf _ => none
  | .receive => none
  | .reset => none
  | .beginCmd _ => none
  | .wait => none

/-- Hand a value to the host. -/
def giveHost (v : BitVec 64) (s : State) : State := { s with reads := s.reads ++ [v] }

/-- H7: the next result not yet received; nothing if there is none (log entry 12). -/
def receiveOp (s : State) : State :=
  match s.res[s.taken]? with
  | some r => { giveHost r s with taken := s.taken + 1 }
  | none => s

/-- R77: what each host operation does. -/
def hostPerform (op : HostOp) (s : State) : Result :=
  match op with
  | .writeWave a h => .next { s with wave := waveWrite s.wave a.toNat h }
  | .readWave a => .next (giveHost ((waveRead s.wave a.toNat).setWidth 64) s)
  | .writeCsr k v => csrWrite k v s
  | .readCsr k => .next (giveHost (csrRead s k) s)
  | .writeBuf m v => .next { s with buf := bufWriteLoc s.n s.buf m v }
  | .readBuf m => .next (giveHost (bufReadLoc s.n s.buf m) s)
  | .receive => .next (receiveOp s)
  | .reset => .next (resetCore s)
  | .beginCmd c => .next (cmdBegin c s)
  | .storeCsr32 w v => csrStore32 w v s
  | .storeCsr64 n v => csrStore64 n v s
  | .wait => .next s

/-- R73, R240: while BUSY = 1 only a read of STATUS and a reset complete (and the host may wait); every other operation
is held. -/
def heldOp (op : HostOp) : Bool :=
  match op with
  | .writeWave _ _ => true
  | .readWave _ => true
  | .writeCsr _ _ => true
  | .readCsr k => k != 4
  | .writeBuf _ _ => true
  | .readBuf _ => true
  | .receive => true
  | .reset => false
  | .beginCmd _ => true
  | .storeCsr32 _ _ => true
  | .storeCsr64 _ _ => true
  | .wait => false

/-- The host's next operation is done with. -/
def dropOp (s : State) : State := { s with host := s.host.tail }

/-- Place command word `c` where the next step takes it: a CMD write, ahead of what the host has pending, with the CORE
idle so that the write is not held. Log entry 15. -/
def placeCmd (c : Word) (s : State) : State :=
  { s with host := .writeCsr 3 c :: s.host, busy := false, seq := Seq.idle }

/-- One step of the machine. While BUSY = 1 the CORE takes a micro-step, unless the host's next operation is one that
completes at once; a `wait` is used up by the micro-step it waits for. While BUSY = 0 the host's next operation is
performed; with none pending nothing happens (R241: the CORE does nothing until the host writes CMD). -/
def machineStep (s : State) : Result :=
  match s.host with
  | [] => if s.busy then microStep s else .next s
  | op :: _ =>
    if s.busy && op == .wait then microStep (dropOp s)
    else if s.busy && heldOp op then microStep s
    else hostPerform op (dropOp s)

end Sys2Proof.Machine
end

