-- ==== Sys2Proof/Machine/Step.lean ====
section
/-! DEFINITION. The step function, and the host's way to place a command word. -/

namespace Sys2Proof.Machine

/-- One step (R14, R15, R44, R73, R77): see `machineStep`. -/
def step (s : State) : Host.Outcome State Fault Refusal := machineStep s

/-- `s` with the row's word as the host's next operation, a write to CMD (R39, R90). -/
def State.withFetchWord (s : State) (nbits w : Nat) : State := placeCmd (tableWord nbits w) s

end Sys2Proof.Machine
end

