-- ==== Sys2Proof/Safety.lean ====
section
/-! DEFINITION. The terms claims are stated in: what a good end of a run is (R16), the invariant of the machine (R25 to
R31, R40, R43, R211), the frames of instructions, what correct rounding means (R113 to R115), and the twiddle table of
R116. -/

namespace Sys2Proof.Machine

/-! ### End of a run (R16) -/

/-- A host program has ended: its last operation has completed and BUSY = 0. -/
def runEnded (s : State) : Bool := s.host.isEmpty && !s.busy

/-- The run was good: it has ended with FAULT = 0. -/
def goodEnd (s : State) : Bool := runEnded s && !s.fault

/-! ### The invariant -/

/-- R32, R211, R217: no record without a fault; a fault's record is that of ILLEGAL_CMD or NO_BLOCK. -/
def faultRecordOk (s : State) : Prop :=
  if s.fault then
    (s.cause = causeIllegalCmd ∧ ∃ e, decode s.cfg s.finfo = .error e) ∨ (s.cause = causeNoBlock ∧ s.finfo = 3)
  else s.cause = 0 ∧ s.finfo = 0

/-- R43, R44: the positions SEQ can be at inside command `i`. -/
def seqPositionOk (s : State) (i : Instr) : Prop :=
  match s.seq.stage with
  | .idle => False
  | .extract => i = .rewind ∨ i = .extract ∨ i = .block ∨ i = .run
  | .window => (i = .window ∨ i = .block ∨ i = .run) ∧ s.bv = true ∧ s.seq.i.toNat < s.n
  | .bitrev => (i = .bitrev ∨ i = .fft ∨ i = .block ∨ i = .run) ∧ s.seq.i.toNat < s.n
  | .pass =>
    ((∃ p : BitVec 8, i = .pass p ∧ passNumber p = s.seq.s.toNat) ∨ i = .fft ∨ i = .block ∨ i = .run) ∧
      1 ≤ s.seq.s.toNat ∧ s.seq.s.toNat ≤ s.cfg.lgn ∧
      stepLength s.seq.s.toNat ∣ s.seq.i.toNat ∧ s.seq.i.toNat < s.n ∧
      s.seq.j.toNat < halfLength s.seq.s.toNat
  | .peak =>
    (i = .peak ∨ i = .block ∨ i = .run) ∧ s.seq.i.toNat < s.n ∧ (s.seq.i.toNat ≠ 0 → s.bi.toNat < s.n)

/-- R43, R214: while idle SEQ is at rest; while busy it is at a position of a command that was accepted, and no fault
has been taken. -/
def seqOk (s : State) : Prop :=
  if s.busy then s.fault = false ∧ ∃ i, seqInstr s = some i ∧ seqPositionOk s i else s.seq = Seq.idle

/-- The invariant: what the spec says of every state the machine reaches. -/
structure State.Inv (s : State) : Prop where
  /-- WAVE in canonical form, inside its space (R60). -/
  waveWf : Memory.wf s.wave = true
  /-- BUF has `N` entries (R23). -/
  bufWf : Buffer.wf s.n s.buf = true
  /-- R27: BV = 1 implies `CUR + BLOCK_SIZE <= WLEN`. -/
  blockInside : s.bv = true → s.cur.toNat + s.n ≤ s.wlen.toNat
  /-- R29: BV and EXH are never both 1. -/
  flagsExclusive : ¬(s.bv = true ∧ s.exh = true)
  /-- R25: LEFT is a multiple of STEP_SIZE. -/
  leftOnStride : s.cfg.stepSize ∣ s.left.toNat
  /-- R40: PKIDX is always below BLOCK_SIZE. -/
  peakIndex : s.pkidx.toNat < s.n
  /-- R30: RCOUNT counts the values in RES, modulo 2^32. -/
  resultCount : s.rcount = BitVec.ofNat 32 s.res.length
  /-- R32, R211. -/
  faultRecord : faultRecordOk s
  /-- R43. -/
  sequencer : seqOk s

/-! ### Sequences of blocks and of commands -/

/-- `B(n)`, the number of blocks of a Waveform of `n` samples (R144, R198). -/
def blockCount (c : Config) (n : Nat) : Nat :=
  if n < c.blockSize then 0 else (n - c.blockSize) / c.stepSize + 1

/-- The same command `k` times in a row. -/
def execTimes (i : Instr) : Nat → State → Result
  | 0, s => .next s
  | k + 1, s => andThen (execTimes i k s) (exec i)

/-- BITREV, then PASS 1 to PASS `k`, as commands (R97). -/
def execPassesUpTo : Nat → State → Result
  | 0, s => exec .bitrev s
  | k + 1, s => andThen (execPassesUpTo k s) (exec (.pass (BitVec.ofNat 8 (k + 1))))

/-! ### Frames: groups of fields a claim can say are unchanged from `s` to `t` -/

/-- WLEN, LEFT, CUR, BV, EXH. -/
structure SameExtractor (s t : State) : Prop where
  wlen : t.wlen = s.wlen
  left : t.left = s.left
  cur : t.cur = s.cur
  bv : t.bv = s.bv
  exh : t.exh = s.exh

/-- RES, RCOUNT, PKIDX, PKMAG. -/
structure SameResults (s t : State) : Prop where
  res : t.res = s.res
  rcount : t.rcount = s.rcount
  pkidx : t.pkidx = s.pkidx
  pkmag : t.pkmag = s.pkmag

/-- FAULT, CAUSE, FINFO. -/
structure SameFaults (s t : State) : Prop where
  fault : t.fault = s.fault
  cause : t.cause = s.cause
  finfo : t.finfo = s.finfo

/-- BUSY, SEQ. -/
structure SameSequencer (s t : State) : Prop where
  busy : t.busy = s.busy
  seq : t.seq = s.seq

/-- U, V, RP, W. -/
structure SameTransform (s t : State) : Prop where
  u : t.u = s.u
  v : t.v = s.v
  rp : t.rp = s.rp
  w : t.w = s.w

/-- BM, BI. -/
structure SameScan (s t : State) : Prop where
  bm : t.bm = s.bm
  bi : t.bi = s.bi

/-- The configuration, and what belongs to the host. -/
structure SameHostSide (s t : State) : Prop where
  cfg : t.cfg = s.cfg
  host : t.host = s.host
  reads : t.reads = s.reads
  taken : t.taken = s.taken

/-- Every byte of WAVE reads as before. -/
def SameWave (s t : State) : Prop := ∀ a, waveByte t.wave a = waveByte s.wave a

/-- Every entry of BUF from number `k` up reads as before. -/
def SameBufFrom (k : Nat) (s t : State) : Prop := ∀ i, k ≤ i → bufRead t.buf i = bufRead s.buf i

end Sys2Proof.Machine

namespace Sys2Proof

/-! ### Correct rounding (R113 to R115), in real numbers -/

/-- The real number a finite datum denotes. -/
noncomputable def valueOf (a : F64) : ℝ := (signedUnits a : ℝ) / 2 ^ 1074

/-- The magnitude from which roundTiesToEven gives an infinity: half a unit in the last place above the largest finite
datum. -/
noncomputable def overflowBound : ℝ := 2 ^ 1024 - 2 ^ 970

/-- `r` is the real `x` rounded once to binary64, ties to even (R113): an infinity of `x`'s sign from the overflow bound
up, else a finite datum no farther from `x` than any other, with an even last fraction bit if another is as near. -/
def RoundsTo (x : ℝ) (r : F64) : Prop :=
  if overflowBound ≤ |x| then isInf r = true ∧ signBit r = decide (x < 0)
  else
    isFinite r = true ∧
      ∀ y : F64, isFinite y = true →
        |valueOf r - x| ≤ |valueOf y - x| ∧
          (|valueOf r - x| = |valueOf y - x| → valueOf y ≠ valueOf r → r.toNat % 2 = 0)

/-! ### The table of R116 -/

/-- The table of R116, `W(1)` to `W(15)`. -/
def twiddlesLow : List Cplx := [
  ⟨0xBFF0000000000000, 0x3CA1A62633145C07⟩,
  ⟨0x3C91A62633145C07, 0x3FF0000000000000⟩,
  ⟨0x3FE6A09E667F3BCD, 0x3FE6A09E667F3BCC⟩,
  ⟨0x3FED906BCF328D46, 0x3FD87DE2A6AEA963⟩,
  ⟨0x3FEF6297CFF75CB0, 0x3FC8F8B83C69A60A⟩,
  ⟨0x3FEFD88DA3D12526, 0x3FB917A6BC29B42C⟩,
  ⟨0x3FEFF621E3796D7E, 0x3FA91F65F10DD814⟩,
  ⟨0x3FEFFD886084CD0D, 0x3F992155F7A3667E⟩,
  ⟨0x3FEFFF62169B92DB, 0x3F8921D1FCDEC784⟩,
  ⟨0x3FEFFFD8858E8A92, 0x3F7921F0FE670071⟩,
  ⟨0x3FEFFFF621621D02, 0x3F6921F8BECCA4BA⟩,
  ⟨0x3FEFFFFD88586EE6, 0x3F5921FAAEE6472D⟩,
  ⟨0x3FEFFFFF62161A34, 0x3F4921FB2AECB360⟩,
  ⟨0x3FEFFFFFD8858675, 0x3F3921FB49EE4EA6⟩,
  ⟨0x3FEFFFFFF621619C, 0x3F2921FB51AEB57B⟩]

/-- The table of R116, `W(16)` to `W(30)`. -/
def twiddlesHigh : List Cplx := [
  ⟨0x3FEFFFFFFD885867, 0x3F1921FB539ECF31⟩,
  ⟨0x3FEFFFFFFF62161A, 0x3F0921FB541AD59E⟩,
  ⟨0x3FEFFFFFFFD88586, 0x3EF921FB5439D73A⟩,
  ⟨0x3FEFFFFFFFF62162, 0x3EE921FB544197A0⟩,
  ⟨0x3FEFFFFFFFFD8858, 0x3ED921FB544387BA⟩,
  ⟨0x3FEFFFFFFFFF6216, 0x3EC921FB544403C1⟩,
  ⟨0x3FEFFFFFFFFFD886, 0x3EB921FB544422C2⟩,
  ⟨0x3FEFFFFFFFFFF621, 0x3EA921FB54442A83⟩,
  ⟨0x3FEFFFFFFFFFFD88, 0x3E9921FB54442C73⟩,
  ⟨0x3FEFFFFFFFFFFF62, 0x3E8921FB54442CEF⟩,
  ⟨0x3FEFFFFFFFFFFFD9, 0x3E7921FB54442D0E⟩,
  ⟨0x3FEFFFFFFFFFFFF6, 0x3E6921FB54442D15⟩,
  ⟨0x3FEFFFFFFFFFFFFE, 0x3E5921FB54442D17⟩,
  ⟨0x3FEFFFFFFFFFFFFF, 0x3E4921FB54442D18⟩,
  ⟨0x3FF0000000000000, 0x3E3921FB54442D18⟩]

end Sys2Proof
end

