-- ==== Sys2Proof/Certificates/Slice0/Obligations.lean ====
section
/-! DEFINITION. The statements for the provers. Each docstring names the rule of spec/ it formalises. `draws`, the host's
list and the host's reads are the model's own fields; a free value stands under an existential, so that a statement
holds for every one. -/

open Sys2Proof Sys2Proof.Machine

/-! ### Encoding (30_encoding.md) -/

/-- R91, R96: decoding an encoded well-formed command gives it back, in every configuration. -/
def Obligations.DecodeOfEncode : Prop :=
  ∀ (c : Config) (i : Instr), i.wellFormed c = true → decode c (encode i) = .ok i

/-- R91, R93: a word that decodes is the one encoding of its command, and the command is well formed. -/
def Obligations.EncodeOfDecode : Prop :=
  ∀ (c : Config) (x : Word) (i : Instr), decode c x = .ok i → encode i = x ∧ i.wellFormed c = true

/-- R93: the decode function, test by test, with the fields as numbers: `x[31:16]`, `x[15:8]`, `x[7:0]`. -/
def Obligations.DecodeFollowsItsRule : Prop :=
  ∀ (c : Config) (x : Word),
    (decode c x).toOption =
      if x.toNat / 65536 ≠ 0 then none
      else if x.toNat % 256 = 0x05 then
        if 1 ≤ x.toNat / 256 % 256 ∧ x.toNat / 256 % 256 ≤ c.lgn then
          some (.pass (BitVec.ofNat 8 (x.toNat / 256 % 256)))
        else none
      else if x.toNat / 256 % 256 ≠ 0 then none
      else if x.toNat % 256 = 0x01 then some .rewind
      else if x.toNat % 256 = 0x02 then some .extract
      else if x.toNat % 256 = 0x03 then some .window
      else if x.toNat % 256 = 0x04 then some .bitrev
      else if x.toNat % 256 = 0x06 then some .fft
      else if x.toNat % 256 = 0x07 then some .peak
      else if x.toNat % 256 = 0x08 then some .block
      else if x.toNat % 256 = 0x09 then some .run
      else none

/-- V10 and V11 of 95_test_vectors.md, one word or more of every family, in the default configuration. -/
def Obligations.SpecWordsDecode : Prop :=
  decode .default 0x00000001 = .ok .rewind ∧ decode .default 0x00000002 = .ok .extract ∧
    decode .default 0x00000003 = .ok .window ∧ decode .default 0x00000004 = .ok .bitrev ∧
    decode .default 0x00000105 = .ok (.pass 1) ∧ decode .default 0x00000C05 = .ok (.pass 12) ∧
    decode .default 0x00000006 = .ok .fft ∧ decode .default 0x00000007 = .ok .peak ∧
    decode .default 0x00000008 = .ok .block ∧ decode .default 0x00000009 = .ok .run ∧
    decode .default 0x00000000 = .error .opcode ∧ decode .default 0x00010305 = .error .zeroField ∧
    decode .default 0x00000D05 = .error .passNumber ∧ decode .default 0x00000C06 = .error .argField

/-! ### Steps, acceptance and faults (20_memory.md, 60_exceptions.md) -/

/-- R15, R71: when the CORE is idle, no fault has been taken and the host's next operation writes to CMD a word that
decodes to `i` (in any form of a register write, R65), a step is `exec i`, after that operation has been taken off the
host's list. -/
def Obligations.StepRunsDecodedCommand : Prop :=
  ∀ (s : State) (op : HostOp) (x : Word) (rest : List HostOp) (i : Instr),
    s.busy = false → s.fault = false → s.host = op :: rest → registerWrite op = some (3, x) →
      decode s.cfg x = .ok i → step s = exec i { s with host := rest }

/-- R214: what a write of `x` to CMD does, in the order of the checks: discarded, ILLEGAL_CMD, NO_BLOCK, executed. -/
def Obligations.CommandAcceptanceOrder : Prop :=
  ∀ (s : State) (op : HostOp) (x : Word) (rest : List HostOp),
    s.busy = false → s.seq = Seq.idle → s.host = op :: rest → registerWrite op = some (3, x) →
      (s.fault = true → step s = .next { s with host := rest }) ∧
        (s.fault = false → (decode s.cfg x).toOption = none →
          step s = .next { s with host := rest, fault := true, cause := 1, finfo := x }) ∧
        (s.fault = false → decode s.cfg x = .ok .window → s.bv = false →
          step s = .next { s with host := rest, fault := true, cause := 2, finfo := x }) ∧
        ∀ i, s.fault = false → decode s.cfg x = .ok i → (i = .window → s.bv = true) →
          step s = exec i { s with host := rest }

/-- R216: a step that takes a fault changes FAULT, CAUSE and FINFO and nothing else of the machine, and the cause is 1
or 2 (R211). -/
def Obligations.FaultsArePrecise : Prop :=
  ∀ s t : State, s.Inv → step s = .next t → s.fault = false → t.fault = true →
    t = { s with host := s.host.tail, fault := true, cause := t.cause, finfo := t.finfo } ∧
      (t.cause = 1 ∨ t.cause = 2)

/-- R217: while FAULT = 1 nothing but reset clears or changes FAULT, CAUSE and FINFO, no result is appended, and the
extractor moves only by a WLEN write. -/
def Obligations.FaultIsSticky : Prop :=
  ∀ s t : State, s.Inv → step s = .next t → s.fault = true → s.host.head? ≠ some .reset →
    t.fault = true ∧ t.cause = s.cause ∧ t.finfo = s.finfo ∧ SameResults s t ∧
      ((∀ op x, s.host.head? = some op → registerWrite op ≠ some (2, x)) → SameExtractor s t)

/-- R73: while BUSY = 1 every host operation but a read of STATUS and a reset is held (a `wait` is no operation on the
CORE), and a read of STATUS completes, with bit 0 set and every other field of the state as it was. -/
def Obligations.HostIsHeldWhileBusy : Prop :=
  (∀ (s t : State) (op : HostOp) (rest : List HostOp),
      s.busy = true → s.host = op :: rest → op ≠ .readCsr 4 → op ≠ .reset → op ≠ .wait → step s = .next t →
        t.host = s.host ∧ t.reads = s.reads ∧ t.wave = s.wave ∧ t.wlen = s.wlen) ∧
    ∀ (s : State) (rest : List HostOp), s.busy = true → s.host = .readCsr 4 :: rest →
      step s = .next { s with host := rest, reads := s.reads ++ [(statusWord s).setWidth 64] } ∧
        (statusWord s).getLsbD 0 = true

/-- R47, R240: a reset, at any time, puts every element with a stated reset value at that value and leaves WAVE and the
configuration alone. -/
def Obligations.ResetValues : Prop :=
  ∀ (s : State) (rest : List HostOp), s.host = .reset :: rest →
    ∃ t, step s = .next t ∧ t.wlen = 0 ∧ t.buf.length = s.n ∧ (∀ i < s.n, bufRead t.buf i = ⟨0, 0⟩) ∧
      t.left = 0 ∧ t.cur = 0 ∧ t.bv = false ∧ t.exh = false ∧ t.res = [] ∧ t.rcount = 0 ∧ t.pkidx = 0 ∧
      t.pkmag = 0 ∧ t.fault = false ∧ t.cause = 0 ∧ t.finfo = 0 ∧ t.busy = false ∧ statusWord t = 0 ∧
      t.seq = { cmd := none, stage := .idle, s := 1, i := 0, j := 0 } ∧ t.wave = s.wave ∧ t.cfg = s.cfg ∧
      t.host = rest

/-- R47 at power-on: `State.reset` has the stated values, for the default instance. -/
def Obligations.PowerOnState : Prop :=
  State.reset.wlen = 0 ∧ State.reset.buf.length = 4096 ∧ (∀ i < 4096, bufRead State.reset.buf i = ⟨0, 0⟩) ∧
    State.reset.left = 0 ∧ State.reset.cur = 0 ∧ State.reset.bv = false ∧ State.reset.exh = false ∧
    State.reset.res = [] ∧ State.reset.rcount = 0 ∧ State.reset.pkidx = 0 ∧ State.reset.pkmag = 0 ∧
    State.reset.fault = false ∧ State.reset.cause = 0 ∧ State.reset.finfo = 0 ∧ State.reset.busy = false ∧
    statusWord State.reset = 0 ∧ csrRead State.reset 0 = 0x1000 ∧ csrRead State.reset 1 = 0x400

/-! ### Whole-machine rules -/

/-- The invariant of R23, R25, R27, R29, R30, R32, R40 and R43 holds after reset. -/
def Obligations.InvariantAtReset : Prop := State.reset.Inv

/-- R23, R25, R27, R29, R30, R32, R40, R43: every step keeps the invariant. -/
def Obligations.InvariantKeptByStep : Prop :=
  ∀ s t : State, s.Inv → step s = .next t → t.Inv

/-- R76, R196, R210: from a state that meets the invariant a step always answers a next state; no data, command word or
host operation stops the machine. -/
def Obligations.MachineNeverStops : Prop := ∀ s : State, s.Inv → ∃ t, step s = .next t

/-- R28: nothing but reset removes or changes an element of RES. -/
def Obligations.ResultsOnlyGrow : Prop :=
  ∀ s t : State, step s = .next t → s.host.head? ≠ some .reset → ∃ l, t.res = s.res ++ l

/-- R61, R37, R38: only the host's own write changes WAVE, and nothing changes the configuration. -/
def Obligations.OnlyTheHostWritesWave : Prop :=
  ∀ s t : State, step s = .next t →
    t.cfg = s.cfg ∧ ((∀ a h, s.host.head? ≠ some (.writeWave a h)) → SameWave s t)

/-- R210, R216: every well-formed command, issued where its own precondition holds, completes and takes no fault. WINDOW
needs a current block; for WINDOW and BLOCK that block must lie inside the Waveform (R27's invariant). -/
def Obligations.EveryCommandCompletes : Prop :=
  ∀ (i : Instr) (s : State), i.wellFormed s.cfg = true → (i = .window → s.bv = true) →
    ((i = .window ∨ i = .block) → s.bv = true → s.cur.toNat + s.n ≤ s.wlen.toNat) →
      ∃ t, exec i s = .next t ∧ SameFaults s t ∧ SameSequencer s t ∧ SameHostSide s t ∧ SameWave s t

/-- R15, R44: the two views of a command agree. Taken up by the sequencer and run by micro-steps, a command reaches
exactly the state that its one atomic transition gives. -/
def Obligations.MicroStepsReachAtomicResult : Prop :=
  ∀ (s : State) (x : Word) (i : Instr),
    s.Inv → s.busy = false → s.fault = false → s.host = [.beginCmd x] → decode s.cfg x = .ok i →
      ∃ k t, core.run k s = .next t ∧ exec i { s with host := [] } = .next t

/-! ### Block Extractor (41_extractor.md) -/

/-- R141: REWIND's whole effect. -/
def Obligations.RewindResult : Prop :=
  ∀ s : State, exec .rewind s = .next { s with left := 0, cur := 0, bv := false, exh := false }

/-- R142, R125: EXTRACT's whole effect, with the sum `LEFT + BLOCK_SIZE` a natural number; where it yields a block LEFT
advances by exactly STEP_SIZE, without a wrap. -/
def Obligations.ExtractResult : Prop :=
  ∀ s : State,
    exec .extract s =
        .next
          (if s.exh = true then s
          else if s.left.toNat + s.cfg.blockSize ≤ s.wlen.toNat then
            { s with cur := s.left, bv := true, left := s.left + BitVec.ofNat 32 s.cfg.stepSize }
          else { s with bv := false, exh := true }) ∧
      (s.left.toNat + s.cfg.blockSize ≤ s.wlen.toNat →
        (s.left + BitVec.ofNat 32 s.cfg.stepSize).toNat = s.left.toNat + s.cfg.stepSize)

/-- R143: a host write of WLEN sets it and rewinds, also while FAULT = 1 (R217). -/
def Obligations.WlenWriteRewinds : Prop :=
  ∀ (s : State) (op : HostOp) (x : Word) (rest : List HostOp),
    s.busy = false → s.host = op :: rest → registerWrite op = some (2, x) →
      step s = .next { s with host := rest, wlen := x, left := 0, cur := 0, bv := false, exh := false }

/-- R144: the block sequence. From LEFT = 0, EXH = 0 the first `B(n)` EXTRACTs yield CUR = 0, S, 2S, ...; number
`B(n) + 1` sets EXH; every later one changes nothing. -/
def Obligations.ExtractSequence : Prop :=
  ∀ s : State, s.left = 0 → s.exh = false →
    (∀ k < blockCount s.cfg s.wlen.toNat, ∃ t,
        execTimes .extract (k + 1) s = .next t ∧ t.bv = true ∧ t.exh = false ∧ t.cur.toNat = k * s.cfg.stepSize) ∧
      ∃ t, execTimes .extract (blockCount s.cfg s.wlen.toNat + 1) s = .next t ∧ t.bv = false ∧ t.exh = true ∧
        ∀ k, execTimes .extract k t = .next t

/-! ### Windower (42_windower.md) -/

/-- R151, R152, R153: with a current block inside the WAVE space, WINDOW replaces every entry of BUF: the real part is
the rounded product of the sample and the Hann coefficient, evaluated in R151's order, the imaginary part `+0.0`. The
numbers `d0` to `d4` only name the NaN an operation would produce. -/
def Obligations.WindowResult : Prop :=
  ∀ s : State, s.bv = true → s.cur.toNat + s.n ≤ 2 ^ 32 → s.buf.length = s.n →
    ∃ t, exec .window s = .next t ∧ t.buf.length = s.n ∧ t.bv = true ∧
      ∀ i < s.n, ∃ d0 d1 d2 d3 d4,
        bufRead t.buf i =
          ⟨fmul d4 (ofInt16 (waveRead s.wave (s.cur.toNat + i)))
              (fmul d3 fHalf
                (fsub d2 fOne
                  (numCos s.cfg (fdiv d1 (fmul d0 fTwoPi (ofNat i)) (ofNat (s.cfg.blockSize - 1)))))),
            0⟩

/-- R213: without a current block WINDOW takes NO_BLOCK and leaves everything else, BUF among it, alone. -/
def Obligations.WindowWithoutBlock : Prop :=
  ∀ s : State, s.bv = false → s.busy = false → s.seq = Seq.idle →
    exec .window s = .next { s with fault := true, cause := 2, finfo := 0x00000003 }

/-! ### FFT Engine (43_fft_engine.md) -/

/-- R164: BITREV's whole effect: afterwards `BUF[i] = old[rev(i, L)]` for every `i`, and nothing else has changed;
BITREV twice restores the state exactly. -/
def Obligations.BitrevPermutes : Prop :=
  ∀ s : State, s.buf.length = s.n →
    ∃ b : Buffer, exec .bitrev s = .next { s with buf := b } ∧ b.length = s.n ∧
      (∀ i < s.n, bufRead b i = bufRead s.buf (rev i s.cfg.lgn)) ∧ execTimes .bitrev 2 s = .next s

/-- R165 to R168: PASS. With `W` the pass's twiddle, in every group of `2^s` entries the root power starts at
`(1.0, +0.0)` and is multiplied by `W` after each `j`, and the entries `lo = i + j` and `hi = lo + half` become
`u + v` and `u - v` for `u` the old lower entry and `v` the old upper entry times the root power. -/
def Obligations.PassResult : Prop :=
  ∀ (p : BitVec 8) (s : State), 1 ≤ p.toNat → p.toNat ≤ s.cfg.lgn → s.buf.length = s.n →
    ∃ t, exec (.pass p) s = .next t ∧ t.buf.length = s.n ∧
      (∃ d, t.w = ⟨numCos s.cfg (fdiv d fTwoPi (ofNat (2 ^ p.toNat))), numSin s.cfg (fdiv d fTwoPi (ofNat (2 ^ p.toNat)))⟩) ∧
      ∀ g < s.n / 2 ^ p.toNat, ∃ r : Nat → Cplx,
        r 0 = ⟨fOne, fZero⟩ ∧
          (∀ j < 2 ^ (p.toNat - 1), ∃ d, r (j + 1) = cmul d (r j) t.w) ∧
          ∀ j < 2 ^ (p.toNat - 1), ∃ d e f,
            bufRead t.buf (g * 2 ^ p.toNat + j) =
                cadd e (bufRead s.buf (g * 2 ^ p.toNat + j))
                  (cmul d (bufRead s.buf (g * 2 ^ p.toNat + j + 2 ^ (p.toNat - 1))) (r j)) ∧
              bufRead t.buf (g * 2 ^ p.toNat + j + 2 ^ (p.toNat - 1)) =
                csub f (bufRead s.buf (g * 2 ^ p.toNat + j))
                  (cmul d (bufRead s.buf (g * 2 ^ p.toNat + j + 2 ^ (p.toNat - 1))) (r j))

/-- R94, R168: a pass number out of range is ILLEGAL_CMD, with nothing else changed. -/
def Obligations.PassOutOfRangeFaults : Prop :=
  ∀ (p : BitVec 8) (s : State), (Instr.pass p).wellFormed s.cfg = false → s.busy = false → s.seq = Seq.idle →
    exec (.pass p) s = .next { s with fault := true, cause := 1, finfo := BitVec.ofNat 32 (5 + 256 * p.toNat) }

/-- R97, R169: FFT is BITREV, then PASS 1 to PASS L, as commands, in every state. -/
def Obligations.FftIsBitrevThenPasses : Prop := ∀ s : State, exec .fft s = execPassesUpTo s.cfg.lgn s

/-- R152, R164, R168, R169, R246: what WINDOW, BITREV, PASS and FFT leave unchanged: the extractor, the results, the
fault record, the sequencer, BM and BI, the host's side, every byte of WAVE, everything outside BUF's entries; WINDOW
and BITREV also U, V, RP and W. -/
def Obligations.TransformFrame : Prop :=
  ∀ (i : Instr) (s t : State), i.wellFormed s.cfg = true →
    ((i = .window ∧ s.bv = true) ∨ i = .bitrev ∨ (∃ p, i = .pass p) ∨ i = .fft) → exec i s = .next t →
      SameExtractor s t ∧ SameResults s t ∧ SameFaults s t ∧ SameSequencer s t ∧ SameScan s t ∧ SameHostSide s t ∧
        SameWave s t ∧ SameBufFrom s.buf.length s t ∧ t.buf.length = s.buf.length ∧
        ((i = .window ∨ i = .bitrev) → SameTransform s t)

/-! ### Block Aggregator (44_aggregator.md) -/

/-- R191 to R193: PEAK. With `m k` the magnitude of entry `k`, one value `m i` is appended to RES and put into PKMAG,
its index into PKIDX, and RCOUNT goes up by one modulo 2^32. The index is 0 if `m 0` is a NaN; else `m i` is no NaN, no
entry's magnitude is greater, and every earlier one that is no NaN is smaller. -/
def Obligations.PeakResult : Prop :=
  ∀ s : State, s.buf.length = s.n →
    ∃ (t : State) (m : Nat → F64) (i : Nat), exec .peak s = .next t ∧ i < s.n ∧
      (∀ k < s.n, ∃ d, m k = cmag d (bufRead s.buf k)) ∧
      t.res = s.res ++ [m i] ∧ t.pkmag = m i ∧ t.pkidx.toNat = i ∧
      t.rcount.toNat = (s.rcount.toNat + 1) % 2 ^ 32 ∧
      (isNaN (m 0) = true → i = 0) ∧
      (isNaN (m 0) = false →
        isNaN (m i) = false ∧ (∀ k < s.n, flt (m i) (m k) = false) ∧
          ∀ k < i, isNaN (m k) = false → flt (m k) (m i) = true)

/-- R193: what PEAK leaves unchanged, BUF among it. -/
def Obligations.PeakFrame : Prop :=
  ∀ s t : State, exec .peak s = .next t →
    SameExtractor s t ∧ SameFaults s t ∧ SameSequencer s t ∧ SameTransform s t ∧ SameHostSide s t ∧ SameWave s t ∧
      t.buf = s.buf

/-- R97, R194: BLOCK is EXTRACT, then, if BV = 1 after it, WINDOW, FFT, PEAK, as commands. -/
def Obligations.BlockIsItsExpansion : Prop :=
  ∀ s : State,
    exec .block s =
      andThen (exec .extract s) fun t =>
        if t.bv = true then andThen (exec .window t) fun u => andThen (exec .fft u) (exec .peak) else .next t

/-- R194: BLOCK where a block is left: it completes, CUR and LEFT advance, BV is set, one result is appended and
recorded; the length, the fault record, the sequencer, the host's side and WAVE are as before. -/
def Obligations.BlockResult : Prop :=
  ∀ s : State, s.exh = false → s.left.toNat + s.n ≤ s.wlen.toNat →
    ∃ (t : State) (r : F64), exec .block s = .next t ∧ t.cur = s.left ∧
      t.left.toNat = s.left.toNat + s.cfg.stepSize ∧ t.bv = true ∧ t.exh = false ∧ t.wlen = s.wlen ∧
      t.res = s.res ++ [r] ∧ t.pkmag = r ∧ t.pkidx.toNat < s.n ∧ t.rcount.toNat = (s.rcount.toNat + 1) % 2 ^ 32 ∧
      SameFaults s t ∧ SameSequencer s t ∧ SameHostSide s t ∧ SameWave s t

/-- R194: BLOCK when the extractor is or becomes exhausted changes BV and EXH only. -/
def Obligations.BlockWhenExhausted : Prop :=
  ∀ s : State, ¬(s.bv = true ∧ s.exh = true) → (s.exh = true ∨ s.wlen.toNat < s.left.toNat + s.n) →
    exec .block s = .next { s with bv := false, exh := true }

/-- R97, R195: RUN is BLOCK repeated until EXH = 1 after a BLOCK. The premise is R29's invariant. -/
def Obligations.RunRepeatsBlock : Prop :=
  ∀ s t : State, ¬(s.bv = true ∧ s.exh = true) → exec .block s = .next t →
    exec .run s = if t.exh = true then .next t else exec .run t

/-- R195, R196: RUN completes, with BV = 0 and EXH = 1, appends to RES, and leaves WLEN, the fault record, the sequencer,
the host's side and WAVE alone; if EXH = 1 already it changes nothing. -/
def Obligations.RunResult : Prop :=
  ∀ s : State, ¬(s.bv = true ∧ s.exh = true) →
    ∃ t, exec .run s = .next t ∧ t.bv = false ∧ t.exh = true ∧ t.wlen = s.wlen ∧ (s.exh = true → t = s) ∧
      (∃ l, t.res = s.res ++ l) ∧
      SameFaults s t ∧ SameSequencer s t ∧ SameHostSide s t ∧ SameWave s t

/-- R144, R198: RUN from LEFT = 0, EXH = 0 appends exactly `B(n)` values and leaves LEFT one stride beyond the last
block's left bound, which is in CUR. -/
def Obligations.RunResultCount : Prop :=
  ∀ s : State, s.left = 0 → s.exh = false →
    ∃ (t : State) (l : List F64), exec .run s = .next t ∧ t.res = s.res ++ l ∧
      l.length = blockCount s.cfg s.wlen.toNat ∧
      t.rcount.toNat = (s.rcount.toNat + blockCount s.cfg s.wlen.toNat) % 2 ^ 32 ∧
      t.left.toNat = blockCount s.cfg s.wlen.toNat * s.cfg.stepSize ∧
      (0 < blockCount s.cfg s.wlen.toNat →
        t.cur.toNat = (blockCount s.cfg s.wlen.toNat - 1) * s.cfg.stepSize)

/-- R197: the result of a block depends only on its samples and the configuration (and, for NaNs, on which free values
come next): not on LEFT, earlier blocks, RES or the earlier content of BUF. -/
def Obligations.ResultDependsOnlyOnSamples : Prop :=
  ∀ s t : State, s.cfg = t.cfg → s.draws = t.draws → s.buf.length = s.n → t.buf.length = t.n →
    s.exh = false → t.exh = false → s.left.toNat + s.n ≤ s.wlen.toNat → t.left.toNat + t.n ≤ t.wlen.toNat →
    (∀ i < s.n, waveRead s.wave (s.left.toNat + i) = waveRead t.wave (t.left.toNat + i)) →
      ∃ (s' t' : State) (r : F64), exec .block s = .next s' ∧ exec .block t = .next t' ∧
        s'.res = s.res ++ [r] ∧ t'.res = t.res ++ [r] ∧ s'.pkidx = t'.pkidx ∧ s'.buf = t'.buf

/-! ### The host's registers and memories (10_state.md, 20_memory.md) -/

/-- R36: the layout of STATUS, as a number. -/
def Obligations.StatusLayout : Prop :=
  ∀ s : State,
    (statusWord s).toNat =
      s.busy.toNat + 2 * s.bv.toNat + 4 * s.exh.toNat + 8 * s.fault.toNat + 16 * s.cause.toNat

/-- R40, R41, R64: a host read of register `k` returns the register of that number and changes nothing else; CMD and the
numbers from 11 up read 0. -/
def Obligations.RegisterReads : Prop :=
  ∀ (s : State) (k : Nat) (rest : List HostOp), s.busy = false → s.host = .readCsr k :: rest →
    ∃ x : BitVec 64, step s = .next { s with host := rest, reads := s.reads ++ [x] } ∧
      x.toNat =
        if k = 0 then s.cfg.blockSize else if k = 1 then s.cfg.stepSize else if k = 2 then s.wlen.toNat
        else if k = 4 then (statusWord s).toNat else if k = 5 then s.left.toNat else if k = 6 then s.cur.toNat
        else if k = 7 then s.rcount.toNat else if k = 8 then s.pkidx.toNat else if k = 9 then s.pkmag.toNat
        else if k = 10 then s.finfo.toNat else 0

/-- R40, R41: a host write of any register but WLEN and CMD changes nothing and raises nothing. -/
def Obligations.OtherRegisterWritesIgnored : Prop :=
  ∀ (s : State) (op : HostOp) (k : Nat) (x : Word) (rest : List HostOp), s.busy = false → k ≠ 2 → k ≠ 3 →
    s.host = op :: rest → registerWrite op = some (k, x) → step s = .next { s with host := rest }

/-- R62: a host write of a BUF location replaces that part of its entry and no other; beyond the last location it is
ignored, and a read there returns 0. -/
def Obligations.HostBufferAccess : Prop :=
  (∀ (s : State) (m : Nat) (x : F64) (rest : List HostOp), s.busy = false → s.host = .writeBuf m x :: rest →
      s.buf.length = s.n →
        ∃ b : Buffer, step s = .next { s with host := rest, buf := b } ∧ b.length = s.n ∧
          (m < 2 * s.n → bufReadLoc s.n b m = x) ∧
          ∀ k, k ≠ m ∨ 2 * s.n ≤ m → bufReadLoc s.n b k = bufReadLoc s.n s.buf k) ∧
    ∀ (s : State) (m : Nat) (rest : List HostOp), s.busy = false → s.host = .readBuf m :: rest →
      step s = .next
        { s with
          host := rest
          reads := s.reads ++
            [if 2 * s.n ≤ m then 0 else if m % 2 = 0 then (bufRead s.buf (m / 2)).re else (bufRead s.buf (m / 2)).im] }

/-- R21, R61: a host write of sample `a` is what `MemRead(WAVE, a)` returns afterwards, and no other byte of WAVE
changes, nor anything else. -/
def Obligations.HostSampleWrite : Prop :=
  ∀ (s : State) (a : Word) (h : Half) (rest : List HostOp), s.busy = false → s.host = .writeWave a h :: rest →
    ∃ w : Memory, step s = .next { s with host := rest, wave := w } ∧ waveRead w a.toNat = h ∧
      (∀ b, b / 2 ≠ a.toNat → waveByte w b = waveByte s.wave b) ∧ (Memory.wf s.wave = true → Memory.wf w = true)

/-- R77 H7: the host takes the appended results one at a time, in the order of RES; when none is left it gets nothing
(log entry 12) and nothing changes. -/
def Obligations.ResultsAreReceivedInOrder : Prop :=
  ∀ (s : State) (rest : List HostOp), s.busy = false → s.host = .receive :: rest →
    (∀ h : s.taken < s.res.length,
        step s = .next { s with host := rest, reads := s.reads ++ [s.res[s.taken]], taken := s.taken + 1 }) ∧
      (s.res.length ≤ s.taken → step s = .next { s with host := rest })

/-- R65: the byte-addressed binding is little-endian: byte `j` of an eight-byte register or BUF location holds its bits
`8j + 7 : 8j`, the high four bytes of a 32-bit register read as zero and ignore writes (a 64-bit store of `x` writes the
low half of `x`, a 32-bit store to the low half writes it, one to the high half changes nothing), and sample `a` of WAVE
is in bytes `2a` and `2a + 1`. -/
def Obligations.BytesAreLittleEndian : Prop :=
  (∀ (s : State) (k j : Nat), j < 8 →
      (csrByte s (8 * k + j)).toNat = (csrRead s k).toNat / 2 ^ (8 * j) % 256 ∧
        (k ≠ 9 → 4 ≤ j → csrByte s (8 * k + j) = 0) ∧
        (bufByte s (8 * k + j)).toNat = (bufReadLoc s.n s.buf k).toNat / 2 ^ (8 * j) % 256) ∧
    (∀ (s : State) (k : Nat) (x : BitVec 64) (v : Word) (rest : List HostOp), s.busy = false →
      step { s with host := .storeCsr64 k x :: rest } =
          step { s with host := .writeCsr k (BitVec.ofNat 32 (x.toNat % 2 ^ 32)) :: rest } ∧
        step { s with host := .storeCsr32 (2 * k) v :: rest } = step { s with host := .writeCsr k v :: rest } ∧
        step { s with host := .storeCsr32 (2 * k + 1) v :: rest } = .next { s with host := rest }) ∧
    ∀ (m : Memory) (a : Nat),
      (waveRead m a).toNat = (waveByte m (2 * a)).toNat + 256 * (waveByte m (2 * a + 1)).toNat

/-! ### Index arithmetic and real arithmetic (40_numerics.md) -/

/-- R127: bit reversal: the sum over the reversed digits, in range, an involution, a bijection, and its values at 0,
`2^L - 1` and 1. -/
def Obligations.RevFacts : Prop :=
  (∀ L i : Nat, i < 2 ^ L →
      rev i L = ((List.range L).map fun b => i / 2 ^ b % 2 * 2 ^ (L - 1 - b)).sum ∧
        rev i L < 2 ^ L ∧ rev (rev i L) L = i) ∧
    (∀ L i j : Nat, i < 2 ^ L → j < 2 ^ L → rev i L = rev j L → i = j) ∧
    ∀ L : Nat, rev 0 L = 0 ∧ rev (2 ^ L - 1) L = 2 ^ L - 1 ∧ (1 ≤ L → rev 1 L = 2 ^ (L - 1))

/-- R128: `lg(n)` is the least `L` with `2^L >= n`, and its stated values. R8, R10: `2^LGN = BLOCK_SIZE` exactly, and
`1 <= LGN <= 30`. -/
def Obligations.LgIsLeast : Prop :=
  (∀ n : Nat, 1 ≤ n → n ≤ 2 ^ lg n ∧ ∀ L, n ≤ 2 ^ L → lg n ≤ L) ∧
    (lg 1 = 0 ∧ lg 2 = 1 ∧ lg 8 = 3 ∧ lg 4096 = 12 ∧ lg 5 = 3) ∧
    ∀ c : Config, 2 ^ c.lgn = c.blockSize ∧ 1 ≤ c.lgn ∧ c.lgn ≤ 30

/-- R113: addition and subtraction of finite data round the exact result once. -/
def Obligations.AddSubRoundOnce : Prop :=
  ∀ (d : Nat) (a b : F64), isFinite a = true → isFinite b = true →
    RoundsTo (valueOf a + valueOf b) (fadd d a b) ∧ RoundsTo (valueOf a - valueOf b) (fsub d a b)

/-- R113: multiplication of finite data, and division of finite data by a divisor other than zero, round the exact
result once. -/
def Obligations.MulDivRoundOnce : Prop :=
  ∀ (d : Nat) (a b : F64), isFinite a = true → isFinite b = true →
    RoundsTo (valueOf a * valueOf b) (fmul d a b) ∧
      (valueOf b ≠ 0 → RoundsTo (valueOf a / valueOf b) (fdiv d a b))

/-- R114: the square root of a finite datum that is not negative rounds the exact root once; and the special values. -/
def Obligations.SqrtRoundsOnce : Prop :=
  (∀ (d : Nat) (a : F64), isFinite a = true → signBit a = false → RoundsTo (Real.sqrt (valueOf a)) (fsqrt d a)) ∧
    ∀ d : Nat, fsqrt d fZero = fZero ∧ fsqrt d 0x7FF0000000000000 = 0x7FF0000000000000 ∧
      ∀ a, isNaN a = true → isNaN (fsqrt d a) = true

/-- R113: signs of zero results: `x - x` is `+0.0`; `(+0) + (-0)` is `+0`; a zero product or
quotient has the exclusive-or of the signs. -/
def Obligations.ZeroSigns : Prop :=
  ∀ (d : Nat) (a b : F64), isFinite a = true → isFinite b = true →
    fsub d a a = fZero ∧ fadd d fZero 0x8000000000000000 = fZero ∧
      (magBits (fmul d a b) = 0 → signBit (fmul d a b) = (signBit a != signBit b)) ∧
      (valueOf b ≠ 0 → magBits (fdiv d a b) = 0 → signBit (fdiv d a b) = (signBit a != signBit b))

/-- R130 P1, P2, P3: addition and multiplication commute bit for bit on data that are no NaN; `1.0 * x = x`;
`x + 0.0 = x` but for `-0.0`; `x - 0.0 = x`. -/
def Obligations.RealIdentities : Prop :=
  ∀ (d : Nat) (a b : F64), isNaN a = false → isNaN b = false →
    fadd d a b = fadd d b a ∧ fmul d a b = fmul d b a ∧ fmul d fOne a = a ∧
      (a ≠ 0x8000000000000000 → fadd d a fZero = a) ∧ fadd d 0x8000000000000000 fZero = fZero ∧ fsub d a fZero = a

/-- R112: the conversions are exact, and 0 converts to `+0.0`. -/
def Obligations.ConversionsExact : Prop :=
  (∀ h : Half, isFinite (ofInt16 h) = true ∧ valueOf (ofInt16 h) = (h.toInt : ℝ)) ∧
    (∀ m : Nat, m < 2 ^ 53 → isFinite (ofNat m) = true ∧ valueOf (ofNat m) = (m : ℝ)) ∧
    ofInt16 0 = fZero ∧ ofNat 0 = fZero

/-- R117, R130 P8: `flt` is the quiet less-than: false on a NaN, numeric on finite data, with the infinities at the
ends; irreflexive and transitive. -/
def Obligations.FltIsQuietLess : Prop :=
  (∀ a b : F64, (isNaN a = true ∨ isNaN b = true) → flt a b = false) ∧
    (∀ a b : F64, isFinite a = true → isFinite b = true → (flt a b = true ↔ valueOf a < valueOf b)) ∧
    (∀ a : F64, isFinite a = true → flt a 0x7FF0000000000000 = true ∧ flt 0xFFF0000000000000 a = true ∧
      flt 0x7FF0000000000000 a = false ∧ flt a 0xFFF0000000000000 = false) ∧
    (∀ a : F64, flt a a = false) ∧ ∀ a b c : F64, flt a b = true → flt b c = true → flt a c = true

/-- R120: a magnitude is a NaN or not negative, never `-0.0`; `cmag((3.0, 4.0)) = 5.0`. -/
def Obligations.MagnitudeNotNegative : Prop :=
  (∀ (d : Nat) (z : Cplx), isNaN (cmag d z) = true ∨ signBit (cmag d z) = false) ∧
    ∀ d : Nat, cmag d ⟨0x4008000000000000, 0x4010000000000000⟩ = 0x4014000000000000

/-- R115: the reference cosine and sine of every finite operand. Where the computation decides the rounding they are the
exact value rounded once; in every case they are a number within `2^-259` of the exact value, rounded once, and lie in
`[-1, 1]` (R130 P11). -/
def Obligations.ReferenceTrigRoundsOnce : Prop :=
  ∀ a : F64, isFinite a = true →
    ((decided (cosFixed a) = true → RoundsTo (Real.cos (valueOf a)) (refCos a)) ∧
        (∃ x : ℝ, |x - Real.cos (valueOf a)| ≤ 1 / 2 ^ 259 ∧ RoundsTo x (refCos a)) ∧
        isFinite (refCos a) = true ∧ |valueOf (refCos a)| ≤ 1) ∧
      ((units a < 2 ^ 1047 ∨ decided (sinFixed a) = true → RoundsTo (Real.sin (valueOf a)) (refSin a)) ∧
        (∃ x : ℝ, |x - Real.sin (valueOf a)| ≤ 1 / 2 ^ 259 ∧ RoundsTo x (refSin a)) ∧
        isFinite (refSin a) = true ∧ |valueOf (refSin a)| ≤ 1)

/-- R116: the twiddle angle of every pass is `PI` scaled by a power of two, exactly. -/
def Obligations.TwiddleAngleExact : Prop :=
  ∀ d s : Nat, 1 ≤ s → s ≤ 30 →
    tang d s = BitVec.ofNat 64 (0x400921FB54442D18 - (s - 1) * 0x0010000000000000)

/-- R130 P9, P10: the reference cosine is 1.0 at `+0.0`, at `TWO_PI` and at the datum below it, the values of the last Hann
angle; so the first and the last Hann coefficient of the default instance are `+0.0` (R152). -/
def Obligations.WindowEndsAreZero : Prop :=
  refCos fZero = fOne ∧ refCos 0x401921FB54442D18 = fOne ∧ refCos 0x401921FB54442D17 = fOne ∧
    ∀ d, hann .default d 0 = fZero ∧ hann .default d 4095 = fZero

/-- R130 P7: away from underflow and overflow, `fsqrt(fmul(x, x))` is `|x|`, the datum. -/
def Obligations.SqrtOfSquare : Prop :=
  ∀ (d e : Nat) (x : F64), isFinite x = true → 1 / 2 ^ 511 ≤ |valueOf x| → |valueOf x| < 2 ^ 511 →
    fsqrt e (fmul d x x) = x &&& 0x7FFFFFFFFFFFFFFF

/-- R116: the twiddle factors of the reference instantiation are the spec's table, in every instance that has it. -/
def Obligations.TwiddleTable : Prop :=
  ∀ (c : Config) (d s : Nat), c.num = .reference → 1 ≤ s → s ≤ 30 →
    (twiddlesLow ++ twiddlesHigh)[s - 1]? = some (twiddleOf c d s)
end

