-- ==== Sys2Proof/Laws/State.lean ====
section
/-! SUPPORT. What each named update of the state does to each field: one lemma per field per update, so that no later
proof unfolds a record update. The values are those of the rule named at each group. -/

namespace Sys2Proof.Machine

variable (s : State)

/-! ### `rewindOp` (R141) -/

@[simp] theorem rewindOp_wave : (rewindOp s).wave = s.wave := rfl
@[simp] theorem rewindOp_wlen : (rewindOp s).wlen = s.wlen := rfl
@[simp] theorem rewindOp_buf : (rewindOp s).buf = s.buf := rfl
@[simp] theorem rewindOp_left : (rewindOp s).left = 0 := rfl
@[simp] theorem rewindOp_cur : (rewindOp s).cur = 0 := rfl
@[simp] theorem rewindOp_bv : (rewindOp s).bv = false := rfl
@[simp] theorem rewindOp_exh : (rewindOp s).exh = false := rfl
@[simp] theorem rewindOp_res : (rewindOp s).res = s.res := rfl
@[simp] theorem rewindOp_rcount : (rewindOp s).rcount = s.rcount := rfl
@[simp] theorem rewindOp_pkidx : (rewindOp s).pkidx = s.pkidx := rfl
@[simp] theorem rewindOp_pkmag : (rewindOp s).pkmag = s.pkmag := rfl
@[simp] theorem rewindOp_fault : (rewindOp s).fault = s.fault := rfl
@[simp] theorem rewindOp_cause : (rewindOp s).cause = s.cause := rfl
@[simp] theorem rewindOp_finfo : (rewindOp s).finfo = s.finfo := rfl
@[simp] theorem rewindOp_busy : (rewindOp s).busy = s.busy := rfl
@[simp] theorem rewindOp_seq : (rewindOp s).seq = s.seq := rfl
@[simp] theorem rewindOp_u : (rewindOp s).u = s.u := rfl
@[simp] theorem rewindOp_v : (rewindOp s).v = s.v := rfl
@[simp] theorem rewindOp_rp : (rewindOp s).rp = s.rp := rfl
@[simp] theorem rewindOp_w : (rewindOp s).w = s.w := rfl
@[simp] theorem rewindOp_bm : (rewindOp s).bm = s.bm := rfl
@[simp] theorem rewindOp_bi : (rewindOp s).bi = s.bi := rfl
@[simp] theorem rewindOp_cfg : (rewindOp s).cfg = s.cfg := rfl
@[simp] theorem rewindOp_draws : (rewindOp s).draws = s.draws := rfl
@[simp] theorem rewindOp_host : (rewindOp s).host = s.host := rfl
@[simp] theorem rewindOp_reads : (rewindOp s).reads = s.reads := rfl
@[simp] theorem rewindOp_taken : (rewindOp s).taken = s.taken := rfl
@[simp] theorem rewindOp_n : (rewindOp s).n = s.n := rfl

/-! ### `wlenWrite` (R143) -/

@[simp] theorem wlenWrite_wave (x : Word) : (wlenWrite x s).wave = s.wave := rfl
@[simp] theorem wlenWrite_wlen (x : Word) : (wlenWrite x s).wlen = x := rfl
@[simp] theorem wlenWrite_buf (x : Word) : (wlenWrite x s).buf = s.buf := rfl
@[simp] theorem wlenWrite_left (x : Word) : (wlenWrite x s).left = 0 := rfl
@[simp] theorem wlenWrite_cur (x : Word) : (wlenWrite x s).cur = 0 := rfl
@[simp] theorem wlenWrite_bv (x : Word) : (wlenWrite x s).bv = false := rfl
@[simp] theorem wlenWrite_exh (x : Word) : (wlenWrite x s).exh = false := rfl
@[simp] theorem wlenWrite_res (x : Word) : (wlenWrite x s).res = s.res := rfl
@[simp] theorem wlenWrite_rcount (x : Word) : (wlenWrite x s).rcount = s.rcount := rfl
@[simp] theorem wlenWrite_pkidx (x : Word) : (wlenWrite x s).pkidx = s.pkidx := rfl
@[simp] theorem wlenWrite_pkmag (x : Word) : (wlenWrite x s).pkmag = s.pkmag := rfl
@[simp] theorem wlenWrite_fault (x : Word) : (wlenWrite x s).fault = s.fault := rfl
@[simp] theorem wlenWrite_cause (x : Word) : (wlenWrite x s).cause = s.cause := rfl
@[simp] theorem wlenWrite_finfo (x : Word) : (wlenWrite x s).finfo = s.finfo := rfl
@[simp] theorem wlenWrite_busy (x : Word) : (wlenWrite x s).busy = s.busy := rfl
@[simp] theorem wlenWrite_seq (x : Word) : (wlenWrite x s).seq = s.seq := rfl
@[simp] theorem wlenWrite_u (x : Word) : (wlenWrite x s).u = s.u := rfl
@[simp] theorem wlenWrite_v (x : Word) : (wlenWrite x s).v = s.v := rfl
@[simp] theorem wlenWrite_rp (x : Word) : (wlenWrite x s).rp = s.rp := rfl
@[simp] theorem wlenWrite_w (x : Word) : (wlenWrite x s).w = s.w := rfl
@[simp] theorem wlenWrite_bm (x : Word) : (wlenWrite x s).bm = s.bm := rfl
@[simp] theorem wlenWrite_bi (x : Word) : (wlenWrite x s).bi = s.bi := rfl
@[simp] theorem wlenWrite_cfg (x : Word) : (wlenWrite x s).cfg = s.cfg := rfl
@[simp] theorem wlenWrite_draws (x : Word) : (wlenWrite x s).draws = s.draws := rfl
@[simp] theorem wlenWrite_host (x : Word) : (wlenWrite x s).host = s.host := rfl
@[simp] theorem wlenWrite_reads (x : Word) : (wlenWrite x s).reads = s.reads := rfl
@[simp] theorem wlenWrite_taken (x : Word) : (wlenWrite x s).taken = s.taken := rfl
@[simp] theorem wlenWrite_n (x : Word) : (wlenWrite x s).n = s.n := rfl

/-! ### `raiseFault` (R215) -/

@[simp] theorem raiseFault_wave (c : BitVec 4) (x : Word) : (raiseFault c x s).wave = s.wave := rfl
@[simp] theorem raiseFault_wlen (c : BitVec 4) (x : Word) : (raiseFault c x s).wlen = s.wlen := rfl
@[simp] theorem raiseFault_buf (c : BitVec 4) (x : Word) : (raiseFault c x s).buf = s.buf := rfl
@[simp] theorem raiseFault_left (c : BitVec 4) (x : Word) : (raiseFault c x s).left = s.left := rfl
@[simp] theorem raiseFault_cur (c : BitVec 4) (x : Word) : (raiseFault c x s).cur = s.cur := rfl
@[simp] theorem raiseFault_bv (c : BitVec 4) (x : Word) : (raiseFault c x s).bv = s.bv := rfl
@[simp] theorem raiseFault_exh (c : BitVec 4) (x : Word) : (raiseFault c x s).exh = s.exh := rfl
@[simp] theorem raiseFault_res (c : BitVec 4) (x : Word) : (raiseFault c x s).res = s.res := rfl
@[simp] theorem raiseFault_rcount (c : BitVec 4) (x : Word) : (raiseFault c x s).rcount = s.rcount := rfl
@[simp] theorem raiseFault_pkidx (c : BitVec 4) (x : Word) : (raiseFault c x s).pkidx = s.pkidx := rfl
@[simp] theorem raiseFault_pkmag (c : BitVec 4) (x : Word) : (raiseFault c x s).pkmag = s.pkmag := rfl
@[simp] theorem raiseFault_fault (c : BitVec 4) (x : Word) : (raiseFault c x s).fault = true := rfl
@[simp] theorem raiseFault_cause (c : BitVec 4) (x : Word) : (raiseFault c x s).cause = c := rfl
@[simp] theorem raiseFault_finfo (c : BitVec 4) (x : Word) : (raiseFault c x s).finfo = x := rfl
@[simp] theorem raiseFault_busy (c : BitVec 4) (x : Word) : (raiseFault c x s).busy = false := rfl
@[simp] theorem raiseFault_seq (c : BitVec 4) (x : Word) : (raiseFault c x s).seq = Seq.idle := rfl
@[simp] theorem raiseFault_u (c : BitVec 4) (x : Word) : (raiseFault c x s).u = s.u := rfl
@[simp] theorem raiseFault_v (c : BitVec 4) (x : Word) : (raiseFault c x s).v = s.v := rfl
@[simp] theorem raiseFault_rp (c : BitVec 4) (x : Word) : (raiseFault c x s).rp = s.rp := rfl
@[simp] theorem raiseFault_w (c : BitVec 4) (x : Word) : (raiseFault c x s).w = s.w := rfl
@[simp] theorem raiseFault_bm (c : BitVec 4) (x : Word) : (raiseFault c x s).bm = s.bm := rfl
@[simp] theorem raiseFault_bi (c : BitVec 4) (x : Word) : (raiseFault c x s).bi = s.bi := rfl
@[simp] theorem raiseFault_cfg (c : BitVec 4) (x : Word) : (raiseFault c x s).cfg = s.cfg := rfl
@[simp] theorem raiseFault_draws (c : BitVec 4) (x : Word) : (raiseFault c x s).draws = s.draws := rfl
@[simp] theorem raiseFault_host (c : BitVec 4) (x : Word) : (raiseFault c x s).host = s.host := rfl
@[simp] theorem raiseFault_reads (c : BitVec 4) (x : Word) : (raiseFault c x s).reads = s.reads := rfl
@[simp] theorem raiseFault_taken (c : BitVec 4) (x : Word) : (raiseFault c x s).taken = s.taken := rfl
@[simp] theorem raiseFault_n (c : BitVec 4) (x : Word) : (raiseFault c x s).n = s.n := rfl

/-! ### `resetCore` (R240) -/

@[simp] theorem resetCore_wave : (resetCore s).wave = s.wave := rfl
@[simp] theorem resetCore_wlen : (resetCore s).wlen = 0 := rfl
@[simp] theorem resetCore_buf : (resetCore s).buf = Buffer.zeros s.cfg.blockSize := rfl
@[simp] theorem resetCore_left : (resetCore s).left = 0 := rfl
@[simp] theorem resetCore_cur : (resetCore s).cur = 0 := rfl
@[simp] theorem resetCore_bv : (resetCore s).bv = false := rfl
@[simp] theorem resetCore_exh : (resetCore s).exh = false := rfl
@[simp] theorem resetCore_res : (resetCore s).res = [] := rfl
@[simp] theorem resetCore_rcount : (resetCore s).rcount = 0 := rfl
@[simp] theorem resetCore_pkidx : (resetCore s).pkidx = 0 := rfl
@[simp] theorem resetCore_pkmag : (resetCore s).pkmag = 0 := rfl
@[simp] theorem resetCore_fault : (resetCore s).fault = false := rfl
@[simp] theorem resetCore_cause : (resetCore s).cause = 0 := rfl
@[simp] theorem resetCore_finfo : (resetCore s).finfo = 0 := rfl
@[simp] theorem resetCore_busy : (resetCore s).busy = false := rfl
@[simp] theorem resetCore_seq : (resetCore s).seq = Seq.idle := rfl
@[simp] theorem resetCore_u : (resetCore s).u = Cplx.zero := rfl
@[simp] theorem resetCore_v : (resetCore s).v = Cplx.zero := rfl
@[simp] theorem resetCore_rp : (resetCore s).rp = Cplx.zero := rfl
@[simp] theorem resetCore_w : (resetCore s).w = Cplx.zero := rfl
@[simp] theorem resetCore_bm : (resetCore s).bm = 0 := rfl
@[simp] theorem resetCore_bi : (resetCore s).bi = 0 := rfl
@[simp] theorem resetCore_cfg : (resetCore s).cfg = s.cfg := rfl
@[simp] theorem resetCore_draws : (resetCore s).draws = s.draws := rfl
@[simp] theorem resetCore_host : (resetCore s).host = s.host := rfl
@[simp] theorem resetCore_reads : (resetCore s).reads = s.reads := rfl
@[simp] theorem resetCore_taken : (resetCore s).taken = 0 := rfl
@[simp] theorem resetCore_n : (resetCore s).n = s.n := rfl

/-! ### `resAppend` (R63) -/

@[simp] theorem resAppend_wave (r : F64) : (resAppend r s).wave = s.wave := rfl
@[simp] theorem resAppend_wlen (r : F64) : (resAppend r s).wlen = s.wlen := rfl
@[simp] theorem resAppend_buf (r : F64) : (resAppend r s).buf = s.buf := rfl
@[simp] theorem resAppend_left (r : F64) : (resAppend r s).left = s.left := rfl
@[simp] theorem resAppend_cur (r : F64) : (resAppend r s).cur = s.cur := rfl
@[simp] theorem resAppend_bv (r : F64) : (resAppend r s).bv = s.bv := rfl
@[simp] theorem resAppend_exh (r : F64) : (resAppend r s).exh = s.exh := rfl
@[simp] theorem resAppend_res (r : F64) : (resAppend r s).res = s.res ++ [r] := rfl
@[simp] theorem resAppend_rcount (r : F64) : (resAppend r s).rcount = s.rcount := rfl
@[simp] theorem resAppend_pkidx (r : F64) : (resAppend r s).pkidx = s.pkidx := rfl
@[simp] theorem resAppend_pkmag (r : F64) : (resAppend r s).pkmag = s.pkmag := rfl
@[simp] theorem resAppend_fault (r : F64) : (resAppend r s).fault = s.fault := rfl
@[simp] theorem resAppend_cause (r : F64) : (resAppend r s).cause = s.cause := rfl
@[simp] theorem resAppend_finfo (r : F64) : (resAppend r s).finfo = s.finfo := rfl
@[simp] theorem resAppend_busy (r : F64) : (resAppend r s).busy = s.busy := rfl
@[simp] theorem resAppend_seq (r : F64) : (resAppend r s).seq = s.seq := rfl
@[simp] theorem resAppend_u (r : F64) : (resAppend r s).u = s.u := rfl
@[simp] theorem resAppend_v (r : F64) : (resAppend r s).v = s.v := rfl
@[simp] theorem resAppend_rp (r : F64) : (resAppend r s).rp = s.rp := rfl
@[simp] theorem resAppend_w (r : F64) : (resAppend r s).w = s.w := rfl
@[simp] theorem resAppend_bm (r : F64) : (resAppend r s).bm = s.bm := rfl
@[simp] theorem resAppend_bi (r : F64) : (resAppend r s).bi = s.bi := rfl
@[simp] theorem resAppend_cfg (r : F64) : (resAppend r s).cfg = s.cfg := rfl
@[simp] theorem resAppend_draws (r : F64) : (resAppend r s).draws = s.draws := rfl
@[simp] theorem resAppend_host (r : F64) : (resAppend r s).host = s.host := rfl
@[simp] theorem resAppend_reads (r : F64) : (resAppend r s).reads = s.reads := rfl
@[simp] theorem resAppend_taken (r : F64) : (resAppend r s).taken = s.taken := rfl
@[simp] theorem resAppend_n (r : F64) : (resAppend r s).n = s.n := rfl

/-! ### `winElem` (R151) -/

@[simp] theorem winElem_wave (i : Nat) : (winElem i s).wave = s.wave := rfl
@[simp] theorem winElem_wlen (i : Nat) : (winElem i s).wlen = s.wlen := rfl
@[simp] theorem winElem_buf (i : Nat) : (winElem i s).buf = bufWrite s.buf i ⟨winValue s.cfg s.draws i (waveRead s.wave (sampleIndex s i)), fZero⟩ := rfl
@[simp] theorem winElem_left (i : Nat) : (winElem i s).left = s.left := rfl
@[simp] theorem winElem_cur (i : Nat) : (winElem i s).cur = s.cur := rfl
@[simp] theorem winElem_bv (i : Nat) : (winElem i s).bv = s.bv := rfl
@[simp] theorem winElem_exh (i : Nat) : (winElem i s).exh = s.exh := rfl
@[simp] theorem winElem_res (i : Nat) : (winElem i s).res = s.res := rfl
@[simp] theorem winElem_rcount (i : Nat) : (winElem i s).rcount = s.rcount := rfl
@[simp] theorem winElem_pkidx (i : Nat) : (winElem i s).pkidx = s.pkidx := rfl
@[simp] theorem winElem_pkmag (i : Nat) : (winElem i s).pkmag = s.pkmag := rfl
@[simp] theorem winElem_fault (i : Nat) : (winElem i s).fault = s.fault := rfl
@[simp] theorem winElem_cause (i : Nat) : (winElem i s).cause = s.cause := rfl
@[simp] theorem winElem_finfo (i : Nat) : (winElem i s).finfo = s.finfo := rfl
@[simp] theorem winElem_busy (i : Nat) : (winElem i s).busy = s.busy := rfl
@[simp] theorem winElem_seq (i : Nat) : (winElem i s).seq = s.seq := rfl
@[simp] theorem winElem_u (i : Nat) : (winElem i s).u = s.u := rfl
@[simp] theorem winElem_v (i : Nat) : (winElem i s).v = s.v := rfl
@[simp] theorem winElem_rp (i : Nat) : (winElem i s).rp = s.rp := rfl
@[simp] theorem winElem_w (i : Nat) : (winElem i s).w = s.w := rfl
@[simp] theorem winElem_bm (i : Nat) : (winElem i s).bm = s.bm := rfl
@[simp] theorem winElem_bi (i : Nat) : (winElem i s).bi = s.bi := rfl
@[simp] theorem winElem_cfg (i : Nat) : (winElem i s).cfg = s.cfg := rfl
@[simp] theorem winElem_draws (i : Nat) : (winElem i s).draws = s.draws + 5 := rfl
@[simp] theorem winElem_host (i : Nat) : (winElem i s).host = s.host := rfl
@[simp] theorem winElem_reads (i : Nat) : (winElem i s).reads = s.reads := rfl
@[simp] theorem winElem_taken (i : Nat) : (winElem i s).taken = s.taken := rfl
@[simp] theorem winElem_n (i : Nat) : (winElem i s).n = s.n := rfl

/-! ### `twiddleOp` (R165) -/

@[simp] theorem twiddleOp_wave (p : Nat) : (twiddleOp p s).wave = s.wave := rfl
@[simp] theorem twiddleOp_wlen (p : Nat) : (twiddleOp p s).wlen = s.wlen := rfl
@[simp] theorem twiddleOp_buf (p : Nat) : (twiddleOp p s).buf = s.buf := rfl
@[simp] theorem twiddleOp_left (p : Nat) : (twiddleOp p s).left = s.left := rfl
@[simp] theorem twiddleOp_cur (p : Nat) : (twiddleOp p s).cur = s.cur := rfl
@[simp] theorem twiddleOp_bv (p : Nat) : (twiddleOp p s).bv = s.bv := rfl
@[simp] theorem twiddleOp_exh (p : Nat) : (twiddleOp p s).exh = s.exh := rfl
@[simp] theorem twiddleOp_res (p : Nat) : (twiddleOp p s).res = s.res := rfl
@[simp] theorem twiddleOp_rcount (p : Nat) : (twiddleOp p s).rcount = s.rcount := rfl
@[simp] theorem twiddleOp_pkidx (p : Nat) : (twiddleOp p s).pkidx = s.pkidx := rfl
@[simp] theorem twiddleOp_pkmag (p : Nat) : (twiddleOp p s).pkmag = s.pkmag := rfl
@[simp] theorem twiddleOp_fault (p : Nat) : (twiddleOp p s).fault = s.fault := rfl
@[simp] theorem twiddleOp_cause (p : Nat) : (twiddleOp p s).cause = s.cause := rfl
@[simp] theorem twiddleOp_finfo (p : Nat) : (twiddleOp p s).finfo = s.finfo := rfl
@[simp] theorem twiddleOp_busy (p : Nat) : (twiddleOp p s).busy = s.busy := rfl
@[simp] theorem twiddleOp_seq (p : Nat) : (twiddleOp p s).seq = s.seq := rfl
@[simp] theorem twiddleOp_u (p : Nat) : (twiddleOp p s).u = s.u := rfl
@[simp] theorem twiddleOp_v (p : Nat) : (twiddleOp p s).v = s.v := rfl
@[simp] theorem twiddleOp_rp (p : Nat) : (twiddleOp p s).rp = s.rp := rfl
@[simp] theorem twiddleOp_w (p : Nat) : (twiddleOp p s).w = twiddleOf s.cfg s.draws p := rfl
@[simp] theorem twiddleOp_bm (p : Nat) : (twiddleOp p s).bm = s.bm := rfl
@[simp] theorem twiddleOp_bi (p : Nat) : (twiddleOp p s).bi = s.bi := rfl
@[simp] theorem twiddleOp_cfg (p : Nat) : (twiddleOp p s).cfg = s.cfg := rfl
@[simp] theorem twiddleOp_draws (p : Nat) : (twiddleOp p s).draws = s.draws + 1 := rfl
@[simp] theorem twiddleOp_host (p : Nat) : (twiddleOp p s).host = s.host := rfl
@[simp] theorem twiddleOp_reads (p : Nat) : (twiddleOp p s).reads = s.reads := rfl
@[simp] theorem twiddleOp_taken (p : Nat) : (twiddleOp p s).taken = s.taken := rfl
@[simp] theorem twiddleOp_n (p : Nat) : (twiddleOp p s).n = s.n := rfl

/-! ### `startGroup` (R168) -/

@[simp] theorem startGroup_wave : (startGroup s).wave = s.wave := rfl
@[simp] theorem startGroup_wlen : (startGroup s).wlen = s.wlen := rfl
@[simp] theorem startGroup_buf : (startGroup s).buf = s.buf := rfl
@[simp] theorem startGroup_left : (startGroup s).left = s.left := rfl
@[simp] theorem startGroup_cur : (startGroup s).cur = s.cur := rfl
@[simp] theorem startGroup_bv : (startGroup s).bv = s.bv := rfl
@[simp] theorem startGroup_exh : (startGroup s).exh = s.exh := rfl
@[simp] theorem startGroup_res : (startGroup s).res = s.res := rfl
@[simp] theorem startGroup_rcount : (startGroup s).rcount = s.rcount := rfl
@[simp] theorem startGroup_pkidx : (startGroup s).pkidx = s.pkidx := rfl
@[simp] theorem startGroup_pkmag : (startGroup s).pkmag = s.pkmag := rfl
@[simp] theorem startGroup_fault : (startGroup s).fault = s.fault := rfl
@[simp] theorem startGroup_cause : (startGroup s).cause = s.cause := rfl
@[simp] theorem startGroup_finfo : (startGroup s).finfo = s.finfo := rfl
@[simp] theorem startGroup_busy : (startGroup s).busy = s.busy := rfl
@[simp] theorem startGroup_seq : (startGroup s).seq = s.seq := rfl
@[simp] theorem startGroup_u : (startGroup s).u = s.u := rfl
@[simp] theorem startGroup_v : (startGroup s).v = s.v := rfl
@[simp] theorem startGroup_rp : (startGroup s).rp = Cplx.one := rfl
@[simp] theorem startGroup_w : (startGroup s).w = s.w := rfl
@[simp] theorem startGroup_bm : (startGroup s).bm = s.bm := rfl
@[simp] theorem startGroup_bi : (startGroup s).bi = s.bi := rfl
@[simp] theorem startGroup_cfg : (startGroup s).cfg = s.cfg := rfl
@[simp] theorem startGroup_draws : (startGroup s).draws = s.draws := rfl
@[simp] theorem startGroup_host : (startGroup s).host = s.host := rfl
@[simp] theorem startGroup_reads : (startGroup s).reads = s.reads := rfl
@[simp] theorem startGroup_taken : (startGroup s).taken = s.taken := rfl
@[simp] theorem startGroup_n : (startGroup s).n = s.n := rfl

/-! ### `bflyOp` (R166) -/

@[simp] theorem bflyOp_wave (p q : Nat) : (bflyOp p q s).wave = s.wave := rfl
@[simp] theorem bflyOp_wlen (p q : Nat) : (bflyOp p q s).wlen = s.wlen := rfl
@[simp] theorem bflyOp_buf (p q : Nat) : (bflyOp p q s).buf = bufWrite (bufWrite s.buf p (cadd (s.draws + 6) (bufRead s.buf p) (cmul s.draws (bufRead s.buf q) s.rp))) q
        (csub (s.draws + 8) (bufRead s.buf p) (cmul s.draws (bufRead s.buf q) s.rp)) := rfl
@[simp] theorem bflyOp_left (p q : Nat) : (bflyOp p q s).left = s.left := rfl
@[simp] theorem bflyOp_cur (p q : Nat) : (bflyOp p q s).cur = s.cur := rfl
@[simp] theorem bflyOp_bv (p q : Nat) : (bflyOp p q s).bv = s.bv := rfl
@[simp] theorem bflyOp_exh (p q : Nat) : (bflyOp p q s).exh = s.exh := rfl
@[simp] theorem bflyOp_res (p q : Nat) : (bflyOp p q s).res = s.res := rfl
@[simp] theorem bflyOp_rcount (p q : Nat) : (bflyOp p q s).rcount = s.rcount := rfl
@[simp] theorem bflyOp_pkidx (p q : Nat) : (bflyOp p q s).pkidx = s.pkidx := rfl
@[simp] theorem bflyOp_pkmag (p q : Nat) : (bflyOp p q s).pkmag = s.pkmag := rfl
@[simp] theorem bflyOp_fault (p q : Nat) : (bflyOp p q s).fault = s.fault := rfl
@[simp] theorem bflyOp_cause (p q : Nat) : (bflyOp p q s).cause = s.cause := rfl
@[simp] theorem bflyOp_finfo (p q : Nat) : (bflyOp p q s).finfo = s.finfo := rfl
@[simp] theorem bflyOp_busy (p q : Nat) : (bflyOp p q s).busy = s.busy := rfl
@[simp] theorem bflyOp_seq (p q : Nat) : (bflyOp p q s).seq = s.seq := rfl
@[simp] theorem bflyOp_u (p q : Nat) : (bflyOp p q s).u = bufRead s.buf p := rfl
@[simp] theorem bflyOp_v (p q : Nat) : (bflyOp p q s).v = cmul s.draws (bufRead s.buf q) s.rp := rfl
@[simp] theorem bflyOp_rp (p q : Nat) : (bflyOp p q s).rp = s.rp := rfl
@[simp] theorem bflyOp_w (p q : Nat) : (bflyOp p q s).w = s.w := rfl
@[simp] theorem bflyOp_bm (p q : Nat) : (bflyOp p q s).bm = s.bm := rfl
@[simp] theorem bflyOp_bi (p q : Nat) : (bflyOp p q s).bi = s.bi := rfl
@[simp] theorem bflyOp_cfg (p q : Nat) : (bflyOp p q s).cfg = s.cfg := rfl
@[simp] theorem bflyOp_draws (p q : Nat) : (bflyOp p q s).draws = s.draws + 10 := rfl
@[simp] theorem bflyOp_host (p q : Nat) : (bflyOp p q s).host = s.host := rfl
@[simp] theorem bflyOp_reads (p q : Nat) : (bflyOp p q s).reads = s.reads := rfl
@[simp] theorem bflyOp_taken (p q : Nat) : (bflyOp p q s).taken = s.taken := rfl
@[simp] theorem bflyOp_n (p q : Nat) : (bflyOp p q s).n = s.n := rfl

/-! ### `rpMulOp` (R167) -/

@[simp] theorem rpMulOp_wave : (rpMulOp s).wave = s.wave := rfl
@[simp] theorem rpMulOp_wlen : (rpMulOp s).wlen = s.wlen := rfl
@[simp] theorem rpMulOp_buf : (rpMulOp s).buf = s.buf := rfl
@[simp] theorem rpMulOp_left : (rpMulOp s).left = s.left := rfl
@[simp] theorem rpMulOp_cur : (rpMulOp s).cur = s.cur := rfl
@[simp] theorem rpMulOp_bv : (rpMulOp s).bv = s.bv := rfl
@[simp] theorem rpMulOp_exh : (rpMulOp s).exh = s.exh := rfl
@[simp] theorem rpMulOp_res : (rpMulOp s).res = s.res := rfl
@[simp] theorem rpMulOp_rcount : (rpMulOp s).rcount = s.rcount := rfl
@[simp] theorem rpMulOp_pkidx : (rpMulOp s).pkidx = s.pkidx := rfl
@[simp] theorem rpMulOp_pkmag : (rpMulOp s).pkmag = s.pkmag := rfl
@[simp] theorem rpMulOp_fault : (rpMulOp s).fault = s.fault := rfl
@[simp] theorem rpMulOp_cause : (rpMulOp s).cause = s.cause := rfl
@[simp] theorem rpMulOp_finfo : (rpMulOp s).finfo = s.finfo := rfl
@[simp] theorem rpMulOp_busy : (rpMulOp s).busy = s.busy := rfl
@[simp] theorem rpMulOp_seq : (rpMulOp s).seq = s.seq := rfl
@[simp] theorem rpMulOp_u : (rpMulOp s).u = s.u := rfl
@[simp] theorem rpMulOp_v : (rpMulOp s).v = s.v := rfl
@[simp] theorem rpMulOp_rp : (rpMulOp s).rp = cmul s.draws s.rp s.w := rfl
@[simp] theorem rpMulOp_w : (rpMulOp s).w = s.w := rfl
@[simp] theorem rpMulOp_bm : (rpMulOp s).bm = s.bm := rfl
@[simp] theorem rpMulOp_bi : (rpMulOp s).bi = s.bi := rfl
@[simp] theorem rpMulOp_cfg : (rpMulOp s).cfg = s.cfg := rfl
@[simp] theorem rpMulOp_draws : (rpMulOp s).draws = s.draws + 6 := rfl
@[simp] theorem rpMulOp_host : (rpMulOp s).host = s.host := rfl
@[simp] theorem rpMulOp_reads : (rpMulOp s).reads = s.reads := rfl
@[simp] theorem rpMulOp_taken : (rpMulOp s).taken = s.taken := rfl
@[simp] theorem rpMulOp_n : (rpMulOp s).n = s.n := rfl

/-! ### `scanStart` (R193) -/

@[simp] theorem scanStart_wave : (scanStart s).wave = s.wave := by cases s; rfl
@[simp] theorem scanStart_wlen : (scanStart s).wlen = s.wlen := by cases s; rfl
@[simp] theorem scanStart_buf : (scanStart s).buf = s.buf := by cases s; rfl
@[simp] theorem scanStart_left : (scanStart s).left = s.left := by cases s; rfl
@[simp] theorem scanStart_cur : (scanStart s).cur = s.cur := by cases s; rfl
@[simp] theorem scanStart_bv : (scanStart s).bv = s.bv := by cases s; rfl
@[simp] theorem scanStart_exh : (scanStart s).exh = s.exh := by cases s; rfl
@[simp] theorem scanStart_res : (scanStart s).res = s.res := by cases s; rfl
@[simp] theorem scanStart_rcount : (scanStart s).rcount = s.rcount := by cases s; rfl
@[simp] theorem scanStart_pkidx : (scanStart s).pkidx = s.pkidx := by cases s; rfl
@[simp] theorem scanStart_pkmag : (scanStart s).pkmag = s.pkmag := by cases s; rfl
@[simp] theorem scanStart_fault : (scanStart s).fault = s.fault := by cases s; rfl
@[simp] theorem scanStart_cause : (scanStart s).cause = s.cause := by cases s; rfl
@[simp] theorem scanStart_finfo : (scanStart s).finfo = s.finfo := by cases s; rfl
@[simp] theorem scanStart_busy : (scanStart s).busy = s.busy := by cases s; rfl
@[simp] theorem scanStart_seq : (scanStart s).seq = s.seq := by cases s; rfl
@[simp] theorem scanStart_u : (scanStart s).u = s.u := by cases s; rfl
@[simp] theorem scanStart_v : (scanStart s).v = s.v := by cases s; rfl
@[simp] theorem scanStart_rp : (scanStart s).rp = s.rp := by cases s; rfl
@[simp] theorem scanStart_w : (scanStart s).w = s.w := by cases s; rfl
@[simp] theorem scanStart_bm : (scanStart s).bm = cmag s.draws (bufRead s.buf 0) := by cases s; rfl
@[simp] theorem scanStart_bi : (scanStart s).bi = 0 := by cases s; rfl
@[simp] theorem scanStart_cfg : (scanStart s).cfg = s.cfg := by cases s; rfl
@[simp] theorem scanStart_draws : (scanStart s).draws = s.draws + 4 := by cases s; rfl
@[simp] theorem scanStart_host : (scanStart s).host = s.host := by cases s; rfl
@[simp] theorem scanStart_reads : (scanStart s).reads = s.reads := by cases s; rfl
@[simp] theorem scanStart_taken : (scanStart s).taken = s.taken := by cases s; rfl
@[simp] theorem scanStart_n : (scanStart s).n = s.n := by cases s; rfl

/-! ### `peakCommit` (R193) -/

@[simp] theorem peakCommit_wave : (peakCommit s).wave = s.wave := rfl
@[simp] theorem peakCommit_wlen : (peakCommit s).wlen = s.wlen := rfl
@[simp] theorem peakCommit_buf : (peakCommit s).buf = s.buf := rfl
@[simp] theorem peakCommit_left : (peakCommit s).left = s.left := rfl
@[simp] theorem peakCommit_cur : (peakCommit s).cur = s.cur := rfl
@[simp] theorem peakCommit_bv : (peakCommit s).bv = s.bv := rfl
@[simp] theorem peakCommit_exh : (peakCommit s).exh = s.exh := rfl
@[simp] theorem peakCommit_res : (peakCommit s).res = s.res ++ [s.bm] := rfl
@[simp] theorem peakCommit_rcount : (peakCommit s).rcount = s.rcount + 1 := rfl
@[simp] theorem peakCommit_pkidx : (peakCommit s).pkidx = s.bi := rfl
@[simp] theorem peakCommit_pkmag : (peakCommit s).pkmag = s.bm := rfl
@[simp] theorem peakCommit_fault : (peakCommit s).fault = s.fault := rfl
@[simp] theorem peakCommit_cause : (peakCommit s).cause = s.cause := rfl
@[simp] theorem peakCommit_finfo : (peakCommit s).finfo = s.finfo := rfl
@[simp] theorem peakCommit_busy : (peakCommit s).busy = s.busy := rfl
@[simp] theorem peakCommit_seq : (peakCommit s).seq = s.seq := rfl
@[simp] theorem peakCommit_u : (peakCommit s).u = s.u := rfl
@[simp] theorem peakCommit_v : (peakCommit s).v = s.v := rfl
@[simp] theorem peakCommit_rp : (peakCommit s).rp = s.rp := rfl
@[simp] theorem peakCommit_w : (peakCommit s).w = s.w := rfl
@[simp] theorem peakCommit_bm : (peakCommit s).bm = s.bm := rfl
@[simp] theorem peakCommit_bi : (peakCommit s).bi = s.bi := rfl
@[simp] theorem peakCommit_cfg : (peakCommit s).cfg = s.cfg := rfl
@[simp] theorem peakCommit_draws : (peakCommit s).draws = s.draws := rfl
@[simp] theorem peakCommit_host : (peakCommit s).host = s.host := rfl
@[simp] theorem peakCommit_reads : (peakCommit s).reads = s.reads := rfl
@[simp] theorem peakCommit_taken : (peakCommit s).taken = s.taken := rfl
@[simp] theorem peakCommit_n : (peakCommit s).n = s.n := rfl

/-! ### `enterStage` (R44) -/

@[simp] theorem enterStage_wave (st : Stage) (p : Nat) : (enterStage st p s).wave = s.wave := rfl
@[simp] theorem enterStage_wlen (st : Stage) (p : Nat) : (enterStage st p s).wlen = s.wlen := rfl
@[simp] theorem enterStage_buf (st : Stage) (p : Nat) : (enterStage st p s).buf = s.buf := rfl
@[simp] theorem enterStage_left (st : Stage) (p : Nat) : (enterStage st p s).left = s.left := rfl
@[simp] theorem enterStage_cur (st : Stage) (p : Nat) : (enterStage st p s).cur = s.cur := rfl
@[simp] theorem enterStage_bv (st : Stage) (p : Nat) : (enterStage st p s).bv = s.bv := rfl
@[simp] theorem enterStage_exh (st : Stage) (p : Nat) : (enterStage st p s).exh = s.exh := rfl
@[simp] theorem enterStage_res (st : Stage) (p : Nat) : (enterStage st p s).res = s.res := rfl
@[simp] theorem enterStage_rcount (st : Stage) (p : Nat) : (enterStage st p s).rcount = s.rcount := rfl
@[simp] theorem enterStage_pkidx (st : Stage) (p : Nat) : (enterStage st p s).pkidx = s.pkidx := rfl
@[simp] theorem enterStage_pkmag (st : Stage) (p : Nat) : (enterStage st p s).pkmag = s.pkmag := rfl
@[simp] theorem enterStage_fault (st : Stage) (p : Nat) : (enterStage st p s).fault = s.fault := rfl
@[simp] theorem enterStage_cause (st : Stage) (p : Nat) : (enterStage st p s).cause = s.cause := rfl
@[simp] theorem enterStage_finfo (st : Stage) (p : Nat) : (enterStage st p s).finfo = s.finfo := rfl
@[simp] theorem enterStage_busy (st : Stage) (p : Nat) : (enterStage st p s).busy = s.busy := rfl
@[simp] theorem enterStage_seq (st : Stage) (p : Nat) : (enterStage st p s).seq = { cmd := s.seq.cmd, stage := st, s := BitVec.ofNat 5 p, i := 0, j := 0 } := rfl
@[simp] theorem enterStage_u (st : Stage) (p : Nat) : (enterStage st p s).u = s.u := rfl
@[simp] theorem enterStage_v (st : Stage) (p : Nat) : (enterStage st p s).v = s.v := rfl
@[simp] theorem enterStage_rp (st : Stage) (p : Nat) : (enterStage st p s).rp = s.rp := rfl
@[simp] theorem enterStage_w (st : Stage) (p : Nat) : (enterStage st p s).w = s.w := rfl
@[simp] theorem enterStage_bm (st : Stage) (p : Nat) : (enterStage st p s).bm = s.bm := rfl
@[simp] theorem enterStage_bi (st : Stage) (p : Nat) : (enterStage st p s).bi = s.bi := rfl
@[simp] theorem enterStage_cfg (st : Stage) (p : Nat) : (enterStage st p s).cfg = s.cfg := rfl
@[simp] theorem enterStage_draws (st : Stage) (p : Nat) : (enterStage st p s).draws = s.draws := rfl
@[simp] theorem enterStage_host (st : Stage) (p : Nat) : (enterStage st p s).host = s.host := rfl
@[simp] theorem enterStage_reads (st : Stage) (p : Nat) : (enterStage st p s).reads = s.reads := rfl
@[simp] theorem enterStage_taken (st : Stage) (p : Nat) : (enterStage st p s).taken = s.taken := rfl
@[simp] theorem enterStage_n (st : Stage) (p : Nat) : (enterStage st p s).n = s.n := rfl

/-! ### `setIndices` (R44) -/

@[simp] theorem setIndices_wave (i j : Nat) : (setIndices i j s).wave = s.wave := rfl
@[simp] theorem setIndices_wlen (i j : Nat) : (setIndices i j s).wlen = s.wlen := rfl
@[simp] theorem setIndices_buf (i j : Nat) : (setIndices i j s).buf = s.buf := rfl
@[simp] theorem setIndices_left (i j : Nat) : (setIndices i j s).left = s.left := rfl
@[simp] theorem setIndices_cur (i j : Nat) : (setIndices i j s).cur = s.cur := rfl
@[simp] theorem setIndices_bv (i j : Nat) : (setIndices i j s).bv = s.bv := rfl
@[simp] theorem setIndices_exh (i j : Nat) : (setIndices i j s).exh = s.exh := rfl
@[simp] theorem setIndices_res (i j : Nat) : (setIndices i j s).res = s.res := rfl
@[simp] theorem setIndices_rcount (i j : Nat) : (setIndices i j s).rcount = s.rcount := rfl
@[simp] theorem setIndices_pkidx (i j : Nat) : (setIndices i j s).pkidx = s.pkidx := rfl
@[simp] theorem setIndices_pkmag (i j : Nat) : (setIndices i j s).pkmag = s.pkmag := rfl
@[simp] theorem setIndices_fault (i j : Nat) : (setIndices i j s).fault = s.fault := rfl
@[simp] theorem setIndices_cause (i j : Nat) : (setIndices i j s).cause = s.cause := rfl
@[simp] theorem setIndices_finfo (i j : Nat) : (setIndices i j s).finfo = s.finfo := rfl
@[simp] theorem setIndices_busy (i j : Nat) : (setIndices i j s).busy = s.busy := rfl
@[simp] theorem setIndices_seq (i j : Nat) : (setIndices i j s).seq = { s.seq with i := BitVec.ofNat 31 i, j := BitVec.ofNat 31 j } := rfl
@[simp] theorem setIndices_u (i j : Nat) : (setIndices i j s).u = s.u := rfl
@[simp] theorem setIndices_v (i j : Nat) : (setIndices i j s).v = s.v := rfl
@[simp] theorem setIndices_rp (i j : Nat) : (setIndices i j s).rp = s.rp := rfl
@[simp] theorem setIndices_w (i j : Nat) : (setIndices i j s).w = s.w := rfl
@[simp] theorem setIndices_bm (i j : Nat) : (setIndices i j s).bm = s.bm := rfl
@[simp] theorem setIndices_bi (i j : Nat) : (setIndices i j s).bi = s.bi := rfl
@[simp] theorem setIndices_cfg (i j : Nat) : (setIndices i j s).cfg = s.cfg := rfl
@[simp] theorem setIndices_draws (i j : Nat) : (setIndices i j s).draws = s.draws := rfl
@[simp] theorem setIndices_host (i j : Nat) : (setIndices i j s).host = s.host := rfl
@[simp] theorem setIndices_reads (i j : Nat) : (setIndices i j s).reads = s.reads := rfl
@[simp] theorem setIndices_taken (i j : Nat) : (setIndices i j s).taken = s.taken := rfl
@[simp] theorem setIndices_n (i j : Nat) : (setIndices i j s).n = s.n := rfl

/-! ### `finishCmd` (R44) -/

@[simp] theorem finishCmd_wave : (finishCmd s).wave = s.wave := rfl
@[simp] theorem finishCmd_wlen : (finishCmd s).wlen = s.wlen := rfl
@[simp] theorem finishCmd_buf : (finishCmd s).buf = s.buf := rfl
@[simp] theorem finishCmd_left : (finishCmd s).left = s.left := rfl
@[simp] theorem finishCmd_cur : (finishCmd s).cur = s.cur := rfl
@[simp] theorem finishCmd_bv : (finishCmd s).bv = s.bv := rfl
@[simp] theorem finishCmd_exh : (finishCmd s).exh = s.exh := rfl
@[simp] theorem finishCmd_res : (finishCmd s).res = s.res := rfl
@[simp] theorem finishCmd_rcount : (finishCmd s).rcount = s.rcount := rfl
@[simp] theorem finishCmd_pkidx : (finishCmd s).pkidx = s.pkidx := rfl
@[simp] theorem finishCmd_pkmag : (finishCmd s).pkmag = s.pkmag := rfl
@[simp] theorem finishCmd_fault : (finishCmd s).fault = s.fault := rfl
@[simp] theorem finishCmd_cause : (finishCmd s).cause = s.cause := rfl
@[simp] theorem finishCmd_finfo : (finishCmd s).finfo = s.finfo := rfl
@[simp] theorem finishCmd_busy : (finishCmd s).busy = false := rfl
@[simp] theorem finishCmd_seq : (finishCmd s).seq = Seq.idle := rfl
@[simp] theorem finishCmd_u : (finishCmd s).u = s.u := rfl
@[simp] theorem finishCmd_v : (finishCmd s).v = s.v := rfl
@[simp] theorem finishCmd_rp : (finishCmd s).rp = s.rp := rfl
@[simp] theorem finishCmd_w : (finishCmd s).w = s.w := rfl
@[simp] theorem finishCmd_bm : (finishCmd s).bm = s.bm := rfl
@[simp] theorem finishCmd_bi : (finishCmd s).bi = s.bi := rfl
@[simp] theorem finishCmd_cfg : (finishCmd s).cfg = s.cfg := rfl
@[simp] theorem finishCmd_draws : (finishCmd s).draws = s.draws := rfl
@[simp] theorem finishCmd_host : (finishCmd s).host = s.host := rfl
@[simp] theorem finishCmd_reads : (finishCmd s).reads = s.reads := rfl
@[simp] theorem finishCmd_taken : (finishCmd s).taken = s.taken := rfl
@[simp] theorem finishCmd_n : (finishCmd s).n = s.n := rfl

/-! ### `acceptCmd` (R44) -/

@[simp] theorem acceptCmd_wave (c : Word) (i : Instr) : (acceptCmd c i s).wave = s.wave := rfl
@[simp] theorem acceptCmd_wlen (c : Word) (i : Instr) : (acceptCmd c i s).wlen = s.wlen := rfl
@[simp] theorem acceptCmd_buf (c : Word) (i : Instr) : (acceptCmd c i s).buf = s.buf := rfl
@[simp] theorem acceptCmd_left (c : Word) (i : Instr) : (acceptCmd c i s).left = s.left := rfl
@[simp] theorem acceptCmd_cur (c : Word) (i : Instr) : (acceptCmd c i s).cur = s.cur := rfl
@[simp] theorem acceptCmd_bv (c : Word) (i : Instr) : (acceptCmd c i s).bv = s.bv := rfl
@[simp] theorem acceptCmd_exh (c : Word) (i : Instr) : (acceptCmd c i s).exh = s.exh := rfl
@[simp] theorem acceptCmd_res (c : Word) (i : Instr) : (acceptCmd c i s).res = s.res := rfl
@[simp] theorem acceptCmd_rcount (c : Word) (i : Instr) : (acceptCmd c i s).rcount = s.rcount := rfl
@[simp] theorem acceptCmd_pkidx (c : Word) (i : Instr) : (acceptCmd c i s).pkidx = s.pkidx := rfl
@[simp] theorem acceptCmd_pkmag (c : Word) (i : Instr) : (acceptCmd c i s).pkmag = s.pkmag := rfl
@[simp] theorem acceptCmd_fault (c : Word) (i : Instr) : (acceptCmd c i s).fault = s.fault := rfl
@[simp] theorem acceptCmd_cause (c : Word) (i : Instr) : (acceptCmd c i s).cause = s.cause := rfl
@[simp] theorem acceptCmd_finfo (c : Word) (i : Instr) : (acceptCmd c i s).finfo = s.finfo := rfl
@[simp] theorem acceptCmd_busy (c : Word) (i : Instr) : (acceptCmd c i s).busy = true := rfl
@[simp] theorem acceptCmd_seq (c : Word) (i : Instr) : (acceptCmd c i s).seq = { cmd := some c, stage := firstStage i, s := BitVec.ofNat 5 (firstPass i), i := 0, j := 0 } := rfl
@[simp] theorem acceptCmd_u (c : Word) (i : Instr) : (acceptCmd c i s).u = s.u := rfl
@[simp] theorem acceptCmd_v (c : Word) (i : Instr) : (acceptCmd c i s).v = s.v := rfl
@[simp] theorem acceptCmd_rp (c : Word) (i : Instr) : (acceptCmd c i s).rp = s.rp := rfl
@[simp] theorem acceptCmd_w (c : Word) (i : Instr) : (acceptCmd c i s).w = s.w := rfl
@[simp] theorem acceptCmd_bm (c : Word) (i : Instr) : (acceptCmd c i s).bm = s.bm := rfl
@[simp] theorem acceptCmd_bi (c : Word) (i : Instr) : (acceptCmd c i s).bi = s.bi := rfl
@[simp] theorem acceptCmd_cfg (c : Word) (i : Instr) : (acceptCmd c i s).cfg = s.cfg := rfl
@[simp] theorem acceptCmd_draws (c : Word) (i : Instr) : (acceptCmd c i s).draws = s.draws := rfl
@[simp] theorem acceptCmd_host (c : Word) (i : Instr) : (acceptCmd c i s).host = s.host := rfl
@[simp] theorem acceptCmd_reads (c : Word) (i : Instr) : (acceptCmd c i s).reads = s.reads := rfl
@[simp] theorem acceptCmd_taken (c : Word) (i : Instr) : (acceptCmd c i s).taken = s.taken := rfl
@[simp] theorem acceptCmd_n (c : Word) (i : Instr) : (acceptCmd c i s).n = s.n := rfl

/-! ### `giveHost` (R77) -/

@[simp] theorem giveHost_wave (x : BitVec 64) : (giveHost x s).wave = s.wave := rfl
@[simp] theorem giveHost_wlen (x : BitVec 64) : (giveHost x s).wlen = s.wlen := rfl
@[simp] theorem giveHost_buf (x : BitVec 64) : (giveHost x s).buf = s.buf := rfl
@[simp] theorem giveHost_left (x : BitVec 64) : (giveHost x s).left = s.left := rfl
@[simp] theorem giveHost_cur (x : BitVec 64) : (giveHost x s).cur = s.cur := rfl
@[simp] theorem giveHost_bv (x : BitVec 64) : (giveHost x s).bv = s.bv := rfl
@[simp] theorem giveHost_exh (x : BitVec 64) : (giveHost x s).exh = s.exh := rfl
@[simp] theorem giveHost_res (x : BitVec 64) : (giveHost x s).res = s.res := rfl
@[simp] theorem giveHost_rcount (x : BitVec 64) : (giveHost x s).rcount = s.rcount := rfl
@[simp] theorem giveHost_pkidx (x : BitVec 64) : (giveHost x s).pkidx = s.pkidx := rfl
@[simp] theorem giveHost_pkmag (x : BitVec 64) : (giveHost x s).pkmag = s.pkmag := rfl
@[simp] theorem giveHost_fault (x : BitVec 64) : (giveHost x s).fault = s.fault := rfl
@[simp] theorem giveHost_cause (x : BitVec 64) : (giveHost x s).cause = s.cause := rfl
@[simp] theorem giveHost_finfo (x : BitVec 64) : (giveHost x s).finfo = s.finfo := rfl
@[simp] theorem giveHost_busy (x : BitVec 64) : (giveHost x s).busy = s.busy := rfl
@[simp] theorem giveHost_seq (x : BitVec 64) : (giveHost x s).seq = s.seq := rfl
@[simp] theorem giveHost_u (x : BitVec 64) : (giveHost x s).u = s.u := rfl
@[simp] theorem giveHost_v (x : BitVec 64) : (giveHost x s).v = s.v := rfl
@[simp] theorem giveHost_rp (x : BitVec 64) : (giveHost x s).rp = s.rp := rfl
@[simp] theorem giveHost_w (x : BitVec 64) : (giveHost x s).w = s.w := rfl
@[simp] theorem giveHost_bm (x : BitVec 64) : (giveHost x s).bm = s.bm := rfl
@[simp] theorem giveHost_bi (x : BitVec 64) : (giveHost x s).bi = s.bi := rfl
@[simp] theorem giveHost_cfg (x : BitVec 64) : (giveHost x s).cfg = s.cfg := rfl
@[simp] theorem giveHost_draws (x : BitVec 64) : (giveHost x s).draws = s.draws := rfl
@[simp] theorem giveHost_host (x : BitVec 64) : (giveHost x s).host = s.host := rfl
@[simp] theorem giveHost_reads (x : BitVec 64) : (giveHost x s).reads = s.reads ++ [x] := rfl
@[simp] theorem giveHost_taken (x : BitVec 64) : (giveHost x s).taken = s.taken := rfl
@[simp] theorem giveHost_n (x : BitVec 64) : (giveHost x s).n = s.n := rfl

/-! ### `dropOp` (R77) -/

@[simp] theorem dropOp_wave : (dropOp s).wave = s.wave := rfl
@[simp] theorem dropOp_wlen : (dropOp s).wlen = s.wlen := rfl
@[simp] theorem dropOp_buf : (dropOp s).buf = s.buf := rfl
@[simp] theorem dropOp_left : (dropOp s).left = s.left := rfl
@[simp] theorem dropOp_cur : (dropOp s).cur = s.cur := rfl
@[simp] theorem dropOp_bv : (dropOp s).bv = s.bv := rfl
@[simp] theorem dropOp_exh : (dropOp s).exh = s.exh := rfl
@[simp] theorem dropOp_res : (dropOp s).res = s.res := rfl
@[simp] theorem dropOp_rcount : (dropOp s).rcount = s.rcount := rfl
@[simp] theorem dropOp_pkidx : (dropOp s).pkidx = s.pkidx := rfl
@[simp] theorem dropOp_pkmag : (dropOp s).pkmag = s.pkmag := rfl
@[simp] theorem dropOp_fault : (dropOp s).fault = s.fault := rfl
@[simp] theorem dropOp_cause : (dropOp s).cause = s.cause := rfl
@[simp] theorem dropOp_finfo : (dropOp s).finfo = s.finfo := rfl
@[simp] theorem dropOp_busy : (dropOp s).busy = s.busy := rfl
@[simp] theorem dropOp_seq : (dropOp s).seq = s.seq := rfl
@[simp] theorem dropOp_u : (dropOp s).u = s.u := rfl
@[simp] theorem dropOp_v : (dropOp s).v = s.v := rfl
@[simp] theorem dropOp_rp : (dropOp s).rp = s.rp := rfl
@[simp] theorem dropOp_w : (dropOp s).w = s.w := rfl
@[simp] theorem dropOp_bm : (dropOp s).bm = s.bm := rfl
@[simp] theorem dropOp_bi : (dropOp s).bi = s.bi := rfl
@[simp] theorem dropOp_cfg : (dropOp s).cfg = s.cfg := rfl
@[simp] theorem dropOp_draws : (dropOp s).draws = s.draws := rfl
@[simp] theorem dropOp_host : (dropOp s).host = s.host.tail := rfl
@[simp] theorem dropOp_reads : (dropOp s).reads = s.reads := rfl
@[simp] theorem dropOp_taken : (dropOp s).taken = s.taken := rfl
@[simp] theorem dropOp_n : (dropOp s).n = s.n := rfl

/-! ### `placeCmd` (R39) -/

@[simp] theorem placeCmd_wave (c : Word) : (placeCmd c s).wave = s.wave := rfl
@[simp] theorem placeCmd_wlen (c : Word) : (placeCmd c s).wlen = s.wlen := rfl
@[simp] theorem placeCmd_buf (c : Word) : (placeCmd c s).buf = s.buf := rfl
@[simp] theorem placeCmd_left (c : Word) : (placeCmd c s).left = s.left := rfl
@[simp] theorem placeCmd_cur (c : Word) : (placeCmd c s).cur = s.cur := rfl
@[simp] theorem placeCmd_bv (c : Word) : (placeCmd c s).bv = s.bv := rfl
@[simp] theorem placeCmd_exh (c : Word) : (placeCmd c s).exh = s.exh := rfl
@[simp] theorem placeCmd_res (c : Word) : (placeCmd c s).res = s.res := rfl
@[simp] theorem placeCmd_rcount (c : Word) : (placeCmd c s).rcount = s.rcount := rfl
@[simp] theorem placeCmd_pkidx (c : Word) : (placeCmd c s).pkidx = s.pkidx := rfl
@[simp] theorem placeCmd_pkmag (c : Word) : (placeCmd c s).pkmag = s.pkmag := rfl
@[simp] theorem placeCmd_fault (c : Word) : (placeCmd c s).fault = s.fault := rfl
@[simp] theorem placeCmd_cause (c : Word) : (placeCmd c s).cause = s.cause := rfl
@[simp] theorem placeCmd_finfo (c : Word) : (placeCmd c s).finfo = s.finfo := rfl
@[simp] theorem placeCmd_busy (c : Word) : (placeCmd c s).busy = false := rfl
@[simp] theorem placeCmd_seq (c : Word) : (placeCmd c s).seq = Seq.idle := rfl
@[simp] theorem placeCmd_u (c : Word) : (placeCmd c s).u = s.u := rfl
@[simp] theorem placeCmd_v (c : Word) : (placeCmd c s).v = s.v := rfl
@[simp] theorem placeCmd_rp (c : Word) : (placeCmd c s).rp = s.rp := rfl
@[simp] theorem placeCmd_w (c : Word) : (placeCmd c s).w = s.w := rfl
@[simp] theorem placeCmd_bm (c : Word) : (placeCmd c s).bm = s.bm := rfl
@[simp] theorem placeCmd_bi (c : Word) : (placeCmd c s).bi = s.bi := rfl
@[simp] theorem placeCmd_cfg (c : Word) : (placeCmd c s).cfg = s.cfg := rfl
@[simp] theorem placeCmd_draws (c : Word) : (placeCmd c s).draws = s.draws := rfl
@[simp] theorem placeCmd_host (c : Word) : (placeCmd c s).host = .writeCsr 3 c :: s.host := rfl
@[simp] theorem placeCmd_reads (c : Word) : (placeCmd c s).reads = s.reads := rfl
@[simp] theorem placeCmd_taken (c : Word) : (placeCmd c s).taken = s.taken := rfl
@[simp] theorem placeCmd_n (c : Word) : (placeCmd c s).n = s.n := rfl

/-! ### `extractOp` (R142, the fields it never writes) -/

@[simp] theorem extractOp_wave : (extractOp s).wave = s.wave := by unfold extractOp; split <;> first | rfl | (split <;> rfl)
@[simp] theorem extractOp_wlen : (extractOp s).wlen = s.wlen := by unfold extractOp; split <;> first | rfl | (split <;> rfl)
@[simp] theorem extractOp_buf : (extractOp s).buf = s.buf := by unfold extractOp; split <;> first | rfl | (split <;> rfl)
@[simp] theorem extractOp_res : (extractOp s).res = s.res := by unfold extractOp; split <;> first | rfl | (split <;> rfl)
@[simp] theorem extractOp_rcount : (extractOp s).rcount = s.rcount := by unfold extractOp; split <;> first | rfl | (split <;> rfl)
@[simp] theorem extractOp_pkidx : (extractOp s).pkidx = s.pkidx := by unfold extractOp; split <;> first | rfl | (split <;> rfl)
@[simp] theorem extractOp_pkmag : (extractOp s).pkmag = s.pkmag := by unfold extractOp; split <;> first | rfl | (split <;> rfl)
@[simp] theorem extractOp_fault : (extractOp s).fault = s.fault := by unfold extractOp; split <;> first | rfl | (split <;> rfl)
@[simp] theorem extractOp_cause : (extractOp s).cause = s.cause := by unfold extractOp; split <;> first | rfl | (split <;> rfl)
@[simp] theorem extractOp_finfo : (extractOp s).finfo = s.finfo := by unfold extractOp; split <;> first | rfl | (split <;> rfl)
@[simp] theorem extractOp_busy : (extractOp s).busy = s.busy := by unfold extractOp; split <;> first | rfl | (split <;> rfl)
@[simp] theorem extractOp_seq : (extractOp s).seq = s.seq := by unfold extractOp; split <;> first | rfl | (split <;> rfl)
@[simp] theorem extractOp_u : (extractOp s).u = s.u := by unfold extractOp; split <;> first | rfl | (split <;> rfl)
@[simp] theorem extractOp_v : (extractOp s).v = s.v := by unfold extractOp; split <;> first | rfl | (split <;> rfl)
@[simp] theorem extractOp_rp : (extractOp s).rp = s.rp := by unfold extractOp; split <;> first | rfl | (split <;> rfl)
@[simp] theorem extractOp_w : (extractOp s).w = s.w := by unfold extractOp; split <;> first | rfl | (split <;> rfl)
@[simp] theorem extractOp_bm : (extractOp s).bm = s.bm := by unfold extractOp; split <;> first | rfl | (split <;> rfl)
@[simp] theorem extractOp_bi : (extractOp s).bi = s.bi := by unfold extractOp; split <;> first | rfl | (split <;> rfl)
@[simp] theorem extractOp_cfg : (extractOp s).cfg = s.cfg := by unfold extractOp; split <;> first | rfl | (split <;> rfl)
@[simp] theorem extractOp_draws : (extractOp s).draws = s.draws := by unfold extractOp; split <;> first | rfl | (split <;> rfl)
@[simp] theorem extractOp_host : (extractOp s).host = s.host := by unfold extractOp; split <;> first | rfl | (split <;> rfl)
@[simp] theorem extractOp_reads : (extractOp s).reads = s.reads := by unfold extractOp; split <;> first | rfl | (split <;> rfl)
@[simp] theorem extractOp_taken : (extractOp s).taken = s.taken := by unfold extractOp; split <;> first | rfl | (split <;> rfl)
@[simp] theorem extractOp_n : (extractOp s).n = s.n := by unfold extractOp; split <;> first | rfl | (split <;> rfl)

/-! ### `swapOp` (R163, the fields it never writes) -/

@[simp] theorem swapOp_wave (i : Nat) : (swapOp i s).wave = s.wave := by unfold swapOp; split <;> rfl
@[simp] theorem swapOp_wlen (i : Nat) : (swapOp i s).wlen = s.wlen := by unfold swapOp; split <;> rfl
@[simp] theorem swapOp_left (i : Nat) : (swapOp i s).left = s.left := by unfold swapOp; split <;> rfl
@[simp] theorem swapOp_cur (i : Nat) : (swapOp i s).cur = s.cur := by unfold swapOp; split <;> rfl
@[simp] theorem swapOp_bv (i : Nat) : (swapOp i s).bv = s.bv := by unfold swapOp; split <;> rfl
@[simp] theorem swapOp_exh (i : Nat) : (swapOp i s).exh = s.exh := by unfold swapOp; split <;> rfl
@[simp] theorem swapOp_res (i : Nat) : (swapOp i s).res = s.res := by unfold swapOp; split <;> rfl
@[simp] theorem swapOp_rcount (i : Nat) : (swapOp i s).rcount = s.rcount := by unfold swapOp; split <;> rfl
@[simp] theorem swapOp_pkidx (i : Nat) : (swapOp i s).pkidx = s.pkidx := by unfold swapOp; split <;> rfl
@[simp] theorem swapOp_pkmag (i : Nat) : (swapOp i s).pkmag = s.pkmag := by unfold swapOp; split <;> rfl
@[simp] theorem swapOp_fault (i : Nat) : (swapOp i s).fault = s.fault := by unfold swapOp; split <;> rfl
@[simp] theorem swapOp_cause (i : Nat) : (swapOp i s).cause = s.cause := by unfold swapOp; split <;> rfl
@[simp] theorem swapOp_finfo (i : Nat) : (swapOp i s).finfo = s.finfo := by unfold swapOp; split <;> rfl
@[simp] theorem swapOp_busy (i : Nat) : (swapOp i s).busy = s.busy := by unfold swapOp; split <;> rfl
@[simp] theorem swapOp_seq (i : Nat) : (swapOp i s).seq = s.seq := by unfold swapOp; split <;> rfl
@[simp] theorem swapOp_u (i : Nat) : (swapOp i s).u = s.u := by unfold swapOp; split <;> rfl
@[simp] theorem swapOp_v (i : Nat) : (swapOp i s).v = s.v := by unfold swapOp; split <;> rfl
@[simp] theorem swapOp_rp (i : Nat) : (swapOp i s).rp = s.rp := by unfold swapOp; split <;> rfl
@[simp] theorem swapOp_w (i : Nat) : (swapOp i s).w = s.w := by unfold swapOp; split <;> rfl
@[simp] theorem swapOp_bm (i : Nat) : (swapOp i s).bm = s.bm := by unfold swapOp; split <;> rfl
@[simp] theorem swapOp_bi (i : Nat) : (swapOp i s).bi = s.bi := by unfold swapOp; split <;> rfl
@[simp] theorem swapOp_cfg (i : Nat) : (swapOp i s).cfg = s.cfg := by unfold swapOp; split <;> rfl
@[simp] theorem swapOp_draws (i : Nat) : (swapOp i s).draws = s.draws := by unfold swapOp; split <;> rfl
@[simp] theorem swapOp_host (i : Nat) : (swapOp i s).host = s.host := by unfold swapOp; split <;> rfl
@[simp] theorem swapOp_reads (i : Nat) : (swapOp i s).reads = s.reads := by unfold swapOp; split <;> rfl
@[simp] theorem swapOp_taken (i : Nat) : (swapOp i s).taken = s.taken := by unfold swapOp; split <;> rfl
@[simp] theorem swapOp_n (i : Nat) : (swapOp i s).n = s.n := by unfold swapOp; split <;> rfl

/-! ### `scanStep` (R192, the fields it never writes) -/

@[simp] theorem scanStep_wave (k : Nat) : (scanStep k s).wave = s.wave := by unfold scanStep; split <;> rfl
@[simp] theorem scanStep_wlen (k : Nat) : (scanStep k s).wlen = s.wlen := by unfold scanStep; split <;> rfl
@[simp] theorem scanStep_buf (k : Nat) : (scanStep k s).buf = s.buf := by unfold scanStep; split <;> rfl
@[simp] theorem scanStep_left (k : Nat) : (scanStep k s).left = s.left := by unfold scanStep; split <;> rfl
@[simp] theorem scanStep_cur (k : Nat) : (scanStep k s).cur = s.cur := by unfold scanStep; split <;> rfl
@[simp] theorem scanStep_bv (k : Nat) : (scanStep k s).bv = s.bv := by unfold scanStep; split <;> rfl
@[simp] theorem scanStep_exh (k : Nat) : (scanStep k s).exh = s.exh := by unfold scanStep; split <;> rfl
@[simp] theorem scanStep_res (k : Nat) : (scanStep k s).res = s.res := by unfold scanStep; split <;> rfl
@[simp] theorem scanStep_rcount (k : Nat) : (scanStep k s).rcount = s.rcount := by unfold scanStep; split <;> rfl
@[simp] theorem scanStep_pkidx (k : Nat) : (scanStep k s).pkidx = s.pkidx := by unfold scanStep; split <;> rfl
@[simp] theorem scanStep_pkmag (k : Nat) : (scanStep k s).pkmag = s.pkmag := by unfold scanStep; split <;> rfl
@[simp] theorem scanStep_fault (k : Nat) : (scanStep k s).fault = s.fault := by unfold scanStep; split <;> rfl
@[simp] theorem scanStep_cause (k : Nat) : (scanStep k s).cause = s.cause := by unfold scanStep; split <;> rfl
@[simp] theorem scanStep_finfo (k : Nat) : (scanStep k s).finfo = s.finfo := by unfold scanStep; split <;> rfl
@[simp] theorem scanStep_busy (k : Nat) : (scanStep k s).busy = s.busy := by unfold scanStep; split <;> rfl
@[simp] theorem scanStep_seq (k : Nat) : (scanStep k s).seq = s.seq := by unfold scanStep; split <;> rfl
@[simp] theorem scanStep_u (k : Nat) : (scanStep k s).u = s.u := by unfold scanStep; split <;> rfl
@[simp] theorem scanStep_v (k : Nat) : (scanStep k s).v = s.v := by unfold scanStep; split <;> rfl
@[simp] theorem scanStep_rp (k : Nat) : (scanStep k s).rp = s.rp := by unfold scanStep; split <;> rfl
@[simp] theorem scanStep_w (k : Nat) : (scanStep k s).w = s.w := by unfold scanStep; split <;> rfl
@[simp] theorem scanStep_cfg (k : Nat) : (scanStep k s).cfg = s.cfg := by unfold scanStep; split <;> rfl
@[simp] theorem scanStep_draws (k : Nat) : (scanStep k s).draws = s.draws + 4 := by unfold scanStep; split <;> rfl
@[simp] theorem scanStep_host (k : Nat) : (scanStep k s).host = s.host := by unfold scanStep; split <;> rfl
@[simp] theorem scanStep_reads (k : Nat) : (scanStep k s).reads = s.reads := by unfold scanStep; split <;> rfl
@[simp] theorem scanStep_taken (k : Nat) : (scanStep k s).taken = s.taken := by unfold scanStep; split <;> rfl
@[simp] theorem scanStep_n (k : Nat) : (scanStep k s).n = s.n := by unfold scanStep; split <;> rfl

end Sys2Proof.Machine
end

