-- ==== Sys2Proof/Laws/Store.lean ====
section
/-! SUPPORT. Laws of the sparse store, of WAVE (R61, R65) and of BUF (R62): read after write, canonical form kept. -/

namespace Sys2Proof.Machine

/-! ### The sparse store -/

@[simp] theorem storeGet_storeSet_same {α : Type} (m : List (Nat × α)) (k : Nat) (v : α) :
    storeGet (storeSet m k v) k = some v := by
  induction m with
  | nil => simp [storeSet, storeGet]
  | cons p t ih =>
    obtain ⟨a, b⟩ := p
    simp only [storeSet]
    split
    · simp [storeGet]
    · split
      · simp [storeGet]
      · have : a ≠ k := by omega
        simpa [storeGet, this] using ih

theorem storeGet_storeSet_other {α : Type} (m : List (Nat × α)) (k : Nat) (v : α) {j : Nat} (h : j ≠ k) :
    storeGet (storeSet m k v) j = storeGet m j := by
  induction m with
  | nil => simp [storeSet, storeGet, Ne.symm h]
  | cons p t ih =>
    obtain ⟨a, b⟩ := p
    simp only [storeSet]
    split
    · simp [storeGet, Ne.symm h]
    · split
      · rename_i hk
        subst hk
        simp [storeGet, Ne.symm h]
      · simp [storeGet, ih]

/-- A key below the head and its tail is below everything that writing a larger key makes. -/
theorem storeSorted_cons_storeSet {α : Type} (a : Nat) (b : α) (t : List (Nat × α)) (k : Nat) (v : α)
    (hs : storeSorted ((a, b) :: t) = true) (ht : storeSorted (storeSet t k v) = true) (h : a < k) :
    storeSorted ((a, b) :: storeSet t k v) = true := by
  cases t with
  | nil => simp [storeSet, storeSorted, h]
  | cons q t =>
    obtain ⟨c, d⟩ := q
    have hac : a < c := by
      simp only [storeSorted, Bool.and_eq_true, decide_eq_true_eq] at hs
      exact hs.1
    simp only [storeSet] at ht ⊢
    split <;> rename_i h1
    · simp only [h1, if_true] at ht
      simp [storeSorted, h] at ht ⊢
      exact ht
    · simp only [h1, if_false] at ht
      split <;> rename_i h2
      · simp only [h2, if_true] at ht
        subst h2
        simpa [storeSorted, h] using ht
      · simp only [h2, if_false] at ht
        simp [storeSorted, hac, ht]

theorem storeSorted_tail {α : Type} {p : Nat × α} {t : List (Nat × α)} (h : storeSorted (p :: t) = true) :
    storeSorted t = true := by
  cases t with
  | nil => rfl
  | cons q t =>
    simp only [storeSorted, Bool.and_eq_true] at h
    exact h.2

theorem storeSorted_storeSet {α : Type} (m : List (Nat × α)) (k : Nat) (v : α) (h : storeSorted m = true) :
    storeSorted (storeSet m k v) = true := by
  induction m with
  | nil => rfl
  | cons p t ih =>
    obtain ⟨a, b⟩ := p
    have ih := ih (storeSorted_tail h)
    simp only [storeSet]
    split
    · rename_i hk
      simp only [storeSorted, Bool.and_eq_true, decide_eq_true_eq]
      exact ⟨hk, h⟩
    · split
      · rename_i hk
        subst hk
        cases t with
        | nil => rfl
        | cons q t => exact h
      · exact storeSorted_cons_storeSet a b t k v h ih (by omega)

theorem storeBelow_storeSet {α : Type} (n : Nat) (m : List (Nat × α)) (k : Nat) (v : α) (hk : k < n)
    (h : storeBelow n m = true) : storeBelow n (storeSet m k v) = true := by
  induction m with
  | nil => simp [storeBelow, storeSet, hk]
  | cons p t ih =>
    obtain ⟨a, b⟩ := p
    simp only [storeBelow, List.all_cons, Bool.and_eq_true, decide_eq_true_eq] at h ih ⊢
    simp only [storeSet]
    split
    · simp [hk, h.1]
      simpa using h.2
    · split
      · simp [hk]
        simpa using h.2
      · simp [h.1]
        simpa using ih h.2

/-! ### WAVE -/

theorem waveByte_waveWrite_low (m : Memory) (a : Nat) (h : Half) :
    waveByte (waveWrite m a h) (2 * a) = h.extractLsb' 0 8 := by
  have : 2 * a ≠ 2 * a + 1 := by omega
  simp [waveByte, waveWrite, storeGet_storeSet_other _ _ _ this]

theorem waveByte_waveWrite_high (m : Memory) (a : Nat) (h : Half) :
    waveByte (waveWrite m a h) (2 * a + 1) = h.extractLsb' 8 8 := by
  simp [waveByte, waveWrite]

theorem waveByte_waveWrite_other (m : Memory) (a : Nat) (h : Half) {b : Nat} (hb : b / 2 ≠ a) :
    waveByte (waveWrite m a h) b = waveByte m b := by
  have h1 : b ≠ 2 * a := by omega
  have h2 : b ≠ 2 * a + 1 := by omega
  simp [waveByte, waveWrite, storeGet_storeSet_other _ _ _ h1, storeGet_storeSet_other _ _ _ h2]

/-- A sample write keeps WAVE's canonical form. -/
theorem Memory.wf_waveWrite (m : Memory) (a : Word) (h : Half) (hm : Memory.wf m = true) :
    Memory.wf (waveWrite m a.toNat h) = true := by
  have ha : a.toNat < 2 ^ 32 := a.isLt
  simp only [Memory.wf, Bool.and_eq_true] at hm ⊢
  refine ⟨storeSorted_storeSet _ _ _ (storeSorted_storeSet _ _ _ hm.1), ?_⟩
  exact storeBelow_storeSet _ _ _ _ (by omega) (storeBelow_storeSet _ _ _ _ (by omega) hm.2)

/-- WAVE is in canonical form at reset. -/
theorem Memory.wf_reset : Memory.wf State.reset.wave = true := rfl

/-! ### BUF -/

theorem bufRead_bufWrite_same (b : Buffer) (i : Nat) (z : Cplx) (h : i < b.length) :
    bufRead (bufWrite b i z) i = z := by
  simp [bufRead, bufWrite, h]

theorem bufRead_bufWrite_other (b : Buffer) (i : Nat) (z : Cplx) {j : Nat} (h : j ≠ i) :
    bufRead (bufWrite b i z) j = bufRead b j := by
  simp [bufRead, bufWrite, List.getD_eq_getElem?_getD, List.getElem?_set_ne (Ne.symm h)]

@[simp] theorem length_bufWrite (b : Buffer) (i : Nat) (z : Cplx) : (bufWrite b i z).length = b.length := by
  simp [bufWrite]

@[simp] theorem Buffer.wf_bufWrite (n : Nat) (b : Buffer) (i : Nat) (z : Cplx) :
    Buffer.wf n (bufWrite b i z) = Buffer.wf n b := by
  simp [Buffer.wf]

@[simp] theorem Buffer.wf_bufWriteLoc (n k : Nat) (b : Buffer) (m : Nat) (v : F64) :
    Buffer.wf n (bufWriteLoc k b m v) = Buffer.wf n b := by
  unfold bufWriteLoc
  split <;> simp

@[simp] theorem Buffer.wf_zeros (n : Nat) : Buffer.wf n (Buffer.zeros n) = true := by
  simp [Buffer.wf, Buffer.zeros]

theorem Buffer.length_of_wf {n : Nat} {b : Buffer} (h : Buffer.wf n b = true) : b.length = n := by
  simpa [Buffer.wf] using h

@[simp] theorem bufRead_zeros (n i : Nat) : bufRead (Buffer.zeros n) i = Cplx.zero := by
  simp only [bufRead, Buffer.zeros, List.getD_eq_getElem?_getD, List.getElem?_replicate]
  split <;> rfl

/-- An entry that does not exist reads as zero. -/
theorem bufRead_beyond (b : Buffer) (i : Nat) (h : b.length ≤ i) : bufRead b i = Cplx.zero := by
  simp [bufRead, List.getD_eq_getElem?_getD, List.getElem?_eq_none h]

/-- Two buffers of one length that read alike are one buffer. -/
theorem Buffer.ext_reads {b c : Buffer} (hl : b.length = c.length) (h : ∀ i < b.length, bufRead b i = bufRead c i) :
    b = c := by
  refine List.ext_getElem hl fun i hi hi' => ?_
  have := h i hi
  simpa [bufRead, List.getD_eq_getElem?_getD, hi, hi'] using this

end Sys2Proof.Machine
end

