-- ==== Sys2Proof/Laws/Ops.lean ====
section
/-! SUPPORT. What the shared operations can do: loops, outcomes, the extractor's three cases, the window's loop, and the
frames of micro-operations. Provers cite these instead of unfolding. -/

namespace Sys2Proof.Machine

/-! ### Outcomes -/

@[simp] theorem andThen_next (s : State) (f : State → Result) : andThen (.next s) f = f s := rfl

/-- A chain answers a next state exactly when its first part does and the rest does from there. -/
theorem andThen_eq_next {o : Result} {f : State → Result} {t : State} :
    andThen o f = .next t ↔ ∃ s, o = .next s ∧ f s = .next t := by
  cases o <;> simp [andThen]

/-! ### Loops -/

@[simp] theorem loopUp_zero (f : Nat → State → State) (s : State) : loopUp f 0 s = s := rfl

@[simp] theorem loopUp_succ (f : Nat → State → State) (n : Nat) (s : State) :
    loopUp f (n + 1) s = f n (loopUp f n s) := rfl

/-- What every turn keeps, the loop keeps. -/
theorem loopUp_keeps {α : Type} (g : State → α) (f : Nat → State → State) (h : ∀ i s, g (f i s) = g s) (n : Nat)
    (s : State) : g (loopUp f n s) = g s := by
  induction n with
  | zero => rfl
  | succ n ih => rw [loopUp_succ, h, ih]

/-- The loop rule: what holds before turn 0 and goes from turn `i` to turn `i + 1` holds after the last turn. -/
theorem loopUp_induction {P : Nat → State → Prop} (f : Nat → State → State) (n : Nat) (s : State) (h0 : P 0 s)
    (hs : ∀ i t, i < n → P i t → P (i + 1) (f i t)) : P n (loopUp f n s) := by
  have key : ∀ k, k ≤ n → P k (loopUp f k s) := by
    intro k
    induction k with
    | zero => intro _; exact h0
    | succ k ih => intro hk; exact hs k _ (by omega) (ih (by omega))
  exact key n (le_refl n)

/-- A loop over a relation to the state it started from. -/
theorem loopUp_relates {R : State → State → Prop} (f : Nat → State → State) (hr : ∀ s, R s s)
    (ht : ∀ {a b c}, R a b → R b c → R a c) (h : ∀ i s, R s (f i s)) (n : Nat) (s : State) : R s (loopUp f n s) :=
  loopUp_induction (P := fun _ t => R s t) f n s (hr s) fun i t _ hi => ht hi (h i t)

/-! ### Extractor (R142) -/

/-- EXTRACT does one of three things: nothing (exhausted), yield a block, or find the Waveform exhausted. -/
theorem extractOp_cases (s : State) :
    (s.exh = true ∧ extractOp s = s) ∨
      (s.exh = false ∧ s.left.toNat + s.n ≤ s.wlen.toNat ∧
        extractOp s = { s with cur := s.left, bv := true, left := s.left + BitVec.ofNat 32 s.cfg.stepSize }) ∨
      (s.exh = false ∧ s.wlen.toNat < s.left.toNat + s.n ∧ extractOp s = { s with bv := false, exh := true }) := by
  unfold extractOp blockFits
  by_cases he : s.exh = true
  · exact .inl ⟨he, if_pos he⟩
  · have hf : s.exh = false := by simpa using he
    by_cases h : s.left.toNat + s.n ≤ s.wlen.toNat
    · exact .inr (.inl ⟨hf, h, by simp [hf, h]⟩)
    · exact .inr (.inr ⟨hf, by omega, by simp [hf, h]⟩)

/-- The configuration's bounds: `2 <= N <= 2^30` and `1 <= S < N` (R10). -/
theorem Config.bounds (c : Config) :
    2 ≤ c.blockSize ∧ c.blockSize ≤ 2 ^ 30 ∧ 1 ≤ c.stepSize ∧ c.stepSize < c.blockSize := by
  have h := c.legal
  simp only [configLegal, Bool.and_eq_true, List.any_eq_true, List.mem_range, beq_iff_eq, decide_eq_true_eq] at h
  obtain ⟨⟨k, hk, hN⟩, h1, h2⟩ := h
  refine ⟨?_, ?_, h1, h2⟩
  · rw [hN]; exact Nat.le_self_pow (by omega) 2
  · rw [hN]; exact Nat.pow_le_pow_right (by omega) (by omega)

/-- A block that fits can be stepped over without a wrap (R125). -/
theorem left_add_stepSize (s : State) (h : s.left.toNat + s.n ≤ s.wlen.toNat) :
    (s.left + BitVec.ofNat 32 s.cfg.stepSize).toNat = s.left.toNat + s.cfg.stepSize := by
  have hw := s.wlen.isLt
  have hb := Config.bounds s.cfg
  simp only [State.n] at h
  rw [BitVec.toNat_add, BitVec.toNat_ofNat, Nat.mod_eq_of_lt (a := s.cfg.stepSize) (by omega),
    Nat.mod_eq_of_lt (by omega)]

/-! ### Register writes of the host (R40, R65) -/

/-- In whatever form it comes, a host operation that writes a register is that register write. -/
theorem hostPerform_registerWrite {op : HostOp} {n : Nat} {v : Word} (h : registerWrite op = some (n, v)) (s : State) :
    hostPerform op s = csrWrite n v s := by
  cases op <;> simp only [registerWrite, reduceCtorEq, Option.some.injEq, Prod.mk.injEq] at h
  · obtain ⟨rfl, rfl⟩ := h
    rfl
  · split at h
    · obtain ⟨rfl, rfl⟩ : _ ∧ _ := by simpa using h
      simp [hostPerform, csrStore32, *]
    · cases h
  · obtain ⟨rfl, rfl⟩ := h
    rfl

/-- A register write is held while a command executes (R73). -/
theorem heldOp_registerWrite {op : HostOp} {n : Nat} {v : Word} (h : registerWrite op = some (n, v)) :
    heldOp op = true := by
  cases op <;> first | rfl | cases h

/-! ### Windower (R152) -/

/-- The loop of WINDOW runs when the block lies inside the WAVE space, and only then. -/
theorem windowOp_eq_next {s t : State} :
    windowOp s = .next t ↔ s.cur.toNat + s.n ≤ 2 ^ 32 ∧ t = loopUp winElem s.n s := by
  unfold windowOp
  split <;> rename_i h
  · simp only [h, true_and]
    constructor
    · intro e; exact (Host.Outcome.next.inj e).symm
    · rintro rfl; rfl
  · constructor
    · intro e; cases e
    · rintro ⟨h', -⟩; exact absurd h' h

/-- A yielded block lies inside the WAVE space (R76), so its WINDOW runs. -/
theorem windowOp_runs (s : State) (h : s.cur.toNat + s.n ≤ s.wlen.toNat) :
    windowOp s = .next (loopUp winElem s.n s) :=
  windowOp_eq_next.2 ⟨by have := s.wlen.isLt; omega, rfl⟩

/-! ### The Same relations compose -/

theorem SameExtractor.refl (s : State) : SameExtractor s s := ⟨rfl, rfl, rfl, rfl, rfl⟩

theorem SameExtractor.trans {a b c : State} (h : SameExtractor a b) (k : SameExtractor b c) : SameExtractor a c :=
  ⟨k.wlen.trans h.wlen, k.left.trans h.left, k.cur.trans h.cur, k.bv.trans h.bv, k.exh.trans h.exh⟩

theorem SameResults.refl (s : State) : SameResults s s := ⟨rfl, rfl, rfl, rfl⟩

theorem SameResults.trans {a b c : State} (h : SameResults a b) (k : SameResults b c) : SameResults a c :=
  ⟨k.res.trans h.res, k.rcount.trans h.rcount, k.pkidx.trans h.pkidx, k.pkmag.trans h.pkmag⟩

theorem SameFaults.refl (s : State) : SameFaults s s := ⟨rfl, rfl, rfl⟩

theorem SameFaults.trans {a b c : State} (h : SameFaults a b) (k : SameFaults b c) : SameFaults a c :=
  ⟨k.fault.trans h.fault, k.cause.trans h.cause, k.finfo.trans h.finfo⟩

theorem SameSequencer.refl (s : State) : SameSequencer s s := ⟨rfl, rfl⟩

theorem SameSequencer.trans {a b c : State} (h : SameSequencer a b) (k : SameSequencer b c) : SameSequencer a c :=
  ⟨k.busy.trans h.busy, k.seq.trans h.seq⟩

theorem SameTransform.refl (s : State) : SameTransform s s := ⟨rfl, rfl, rfl, rfl⟩

theorem SameTransform.trans {a b c : State} (h : SameTransform a b) (k : SameTransform b c) : SameTransform a c :=
  ⟨k.u.trans h.u, k.v.trans h.v, k.rp.trans h.rp, k.w.trans h.w⟩

theorem SameScan.refl (s : State) : SameScan s s := ⟨rfl, rfl⟩

theorem SameScan.trans {a b c : State} (h : SameScan a b) (k : SameScan b c) : SameScan a c :=
  ⟨k.bm.trans h.bm, k.bi.trans h.bi⟩

theorem SameHostSide.refl (s : State) : SameHostSide s s := ⟨rfl, rfl, rfl, rfl⟩

theorem SameHostSide.trans {a b c : State} (h : SameHostSide a b) (k : SameHostSide b c) : SameHostSide a c :=
  ⟨k.cfg.trans h.cfg, k.host.trans h.host, k.reads.trans h.reads, k.taken.trans h.taken⟩

/-! ### Every micro-operation of a transform leaves the control side alone -/

/-- WAVE, the extractor, the results, the faults, the sequencer and the host's side are as before, and BUF has as many
entries. -/
structure SameControl (s t : State) : Prop where
  wave : t.wave = s.wave
  extractor : SameExtractor s t
  results : SameResults s t
  faults : SameFaults s t
  sequencer : SameSequencer s t
  hostSide : SameHostSide s t
  bufLength : t.buf.length = s.buf.length

theorem SameControl.refl (s : State) : SameControl s s :=
  ⟨rfl, .refl s, .refl s, .refl s, .refl s, .refl s, rfl⟩

theorem SameControl.trans {a b c : State} (h : SameControl a b) (k : SameControl b c) : SameControl a c :=
  ⟨k.wave.trans h.wave, h.extractor.trans k.extractor, h.results.trans k.results, h.faults.trans k.faults,
    h.sequencer.trans k.sequencer, h.hostSide.trans k.hostSide, k.bufLength.trans h.bufLength⟩

theorem SameControl.n_eq {s t : State} (h : SameControl s t) : t.n = s.n := congrArg Config.blockSize h.hostSide.cfg

theorem winElem_control (i : Nat) (s : State) : SameControl s (winElem i s) := by
  constructor <;> first | (constructor <;> rfl) | simp

theorem swapOp_control (i : Nat) (s : State) : SameControl s (swapOp i s) := by
  unfold swapOp
  split
  · constructor <;> first | (constructor <;> rfl) | simp
  · exact .refl s

theorem twiddleOp_control (p : Nat) (s : State) : SameControl s (twiddleOp p s) := by
  constructor <;> constructor <;> rfl

theorem startGroup_control (s : State) : SameControl s (startGroup s) := by
  constructor <;> constructor <;> rfl

theorem bflyTurn_control (p i j : Nat) (s : State) : SameControl s (bflyTurn p i j s) := by
  unfold bflyTurn
  constructor <;> first | (constructor <;> simp) | simp

theorem scanStart_control (s : State) : SameControl s (scanStart s) := by
  constructor <;> constructor <;> rfl

theorem scanStep_control (k : Nat) (s : State) : SameControl s (scanStep k s) := by
  constructor <;> first | (constructor <;> simp) | simp

theorem loopUp_control (f : Nat → State → State) (h : ∀ i s, SameControl s (f i s)) (n : Nat) (s : State) :
    SameControl s (loopUp f n s) :=
  loopUp_relates f .refl .trans h n s

theorem groupOp_control (p i : Nat) (s : State) : SameControl s (groupOp p i s) :=
  (startGroup_control s).trans (loopUp_control _ (bflyTurn_control p i) _ _)

end Sys2Proof.Machine
end

