-- ==== Sys2Proof/Laws/PerInstr.lean ====
section
/-! SUPPORT. Facts about every command as syntax, one lemma a constructor: where the fields of its word stand (R90, R91). -/

namespace Sys2Proof.Laws.Encoding

/-- The opcode of a command, R91's first column. -/
def opcode : Instr → Nat
  | .rewind => 0x01
  | .extract => 0x02
  | .window => 0x03
  | .bitrev => 0x04
  | .pass _ => 0x05
  | .fft => 0x06
  | .peak => 0x07
  | .block => 0x08
  | .run => 0x09

/-- The operand of a command, 0 where it has none (R92). -/
def operand : Instr → Nat
  | .pass s => s.toNat
  | .rewind => 0
  | .extract => 0
  | .window => 0
  | .bitrev => 0
  | .fft => 0
  | .peak => 0
  | .block => 0
  | .run => 0

/-- R90, R96: the word of a command has its opcode in OPC, its operand in ARG and 0 in ZERO. -/
def Statement (i : Instr) : Prop :=
  (opcField (encode i)).toNat = opcode i ∧ (argField (encode i)).toNat = operand i ∧ zeroField (encode i) = 0

theorem rewind : Statement .rewind := by unfold Statement; decide
theorem extract : Statement .extract := by unfold Statement; decide
theorem window : Statement .window := by unfold Statement; decide
theorem bitrev : Statement .bitrev := by unfold Statement; decide
theorem pass (s : BitVec 8) : Statement (.pass s) := by
  unfold Statement
  revert s
  decide
theorem fft : Statement .fft := by unfold Statement; decide
theorem peak : Statement .peak := by unfold Statement; decide
theorem block : Statement .block := by unfold Statement; decide
theorem run : Statement .run := by unfold Statement; decide

end Sys2Proof.Laws.Encoding
end

