-- ==== Sys2Proof/Laws/Pipeline.lean ====
section
/-! SUPPORT. What the transform, the peak scan, a block's pipeline and RUN's loop can do, once each. -/

namespace Sys2Proof.Machine

/-! ### FFT Engine (R164, R168, R169) -/

theorem bitrevOp_control (s : State) : SameControl s (bitrevOp s) := loopUp_control _ swapOp_control _ s

theorem passOp_control (p : Nat) (s : State) : SameControl s (passOp p s) :=
  (twiddleOp_control p s).trans (loopUp_control _ (fun g => groupOp_control p (groupStart p g)) _ _)

theorem fftOp_control (s : State) : SameControl s (fftOp s) :=
  (bitrevOp_control s).trans (loopUp_control _ (fun k => passOp_control (k + 1)) _ _)

/-! ### Peak scan (R193) -/

theorem scanOp_control (s : State) : SameControl s (scanOp s) :=
  (scanStart_control s).trans (loopUp_control _ (fun k => scanStep_control (k + 1)) _ _)

/-- The scan writes nothing in BUF (R191). -/
@[simp] theorem scanOp_buf (s : State) : (scanOp s).buf = s.buf := by
  unfold scanOp
  rw [loopUp_keeps State.buf _ fun k t => scanStep_buf t (k + 1), scanStart_buf]

/-- The index the scan selects is that of an entry (R31). -/
theorem scanOp_bi_lt (s : State) : (scanOp s).bi.toNat < s.n := by
  have hb := Config.bounds s.cfg
  have h := loopUp_induction (P := fun k t => t.bi.toNat ≤ k) (fun k => scanStep (k + 1)) (s.n - 1) (scanStart s)
    (by simp) fun k t hk ht => by
      unfold scanStep
      split
      · simp only [BitVec.toNat_ofNat]
        exact Nat.mod_le _ _
      · exact Nat.le_succ_of_le ht
  have hn : s.n = s.cfg.blockSize := rfl
  show (loopUp _ _ _).bi.toNat < _
  omega

/-- What PEAK and everything that ends in it do to the results: one value more, recorded in PKMAG, at an index of BUF,
counted (R193). -/
structure Appended (s t : State) : Prop where
  res : t.res = s.res ++ [t.pkmag]
  pkidx : t.pkidx.toNat < s.n
  rcount : t.rcount = s.rcount + 1

theorem peakOp_appended (s : State) : Appended s (peakOp s) := by
  have h := (scanOp_control s).results
  refine ⟨?_, ?_, ?_⟩
  · simp [peakOp, h.res]
  · simpa [peakOp] using scanOp_bi_lt s
  · simp [peakOp, h.rcount]

@[simp] theorem peakOp_buf (s : State) : (peakOp s).buf = s.buf := by simp [peakOp]

/-- PEAK writes no more than the results and BM, BI. -/
theorem peakOp_keeps (s : State) :
    (peakOp s).wave = s.wave ∧ SameExtractor s (peakOp s) ∧ SameFaults s (peakOp s) ∧ SameSequencer s (peakOp s) ∧
      SameHostSide s (peakOp s) := by
  have h := scanOp_control s
  refine ⟨by simp [peakOp, h.wave], ⟨?_, ?_, ?_, ?_, ?_⟩, ⟨?_, ?_, ?_⟩, ⟨?_, ?_⟩, ⟨?_, ?_, ?_, ?_⟩⟩ <;>
    simp [peakOp, h.extractor.wlen, h.extractor.left, h.extractor.cur, h.extractor.bv, h.extractor.exh,
      h.faults.fault, h.faults.cause, h.faults.finfo, h.sequencer.busy, h.sequencer.seq, h.hostSide.cfg,
      h.hostSide.host, h.hostSide.reads, h.hostSide.taken]

/-! ### A block through WINDOW, FFT, PEAK (R194) -/

/-- All that a block's pipeline can do to the fields a claim names. -/
structure Pipelined (s t : State) : Prop where
  appended : Appended s t
  wave : t.wave = s.wave
  extractor : SameExtractor s t
  faults : SameFaults s t
  sequencer : SameSequencer s t
  hostSide : SameHostSide s t
  bufLength : t.buf.length = s.buf.length

/-- The pipeline runs exactly when the block lies inside the WAVE space, and then does this. -/
theorem pipelineOp_eq_next {s t : State} :
    pipelineOp s = .next t ↔ s.cur.toNat + s.n ≤ 2 ^ 32 ∧ t = peakOp (fftOp (loopUp winElem s.n s)) := by
  unfold pipelineOp
  rw [andThen_eq_next]
  constructor
  · rintro ⟨u, hu, ht⟩
    obtain ⟨hb, rfl⟩ := windowOp_eq_next.1 hu
    exact ⟨hb, (Host.Outcome.next.inj ht).symm⟩
  · rintro ⟨hb, rfl⟩
    exact ⟨_, windowOp_eq_next.2 ⟨hb, rfl⟩, rfl⟩

theorem pipelineOp_pipelined {s t : State} (h : pipelineOp s = .next t) : Pipelined s t := by
  obtain ⟨-, rfl⟩ := pipelineOp_eq_next.1 h
  have hc := (loopUp_control winElem winElem_control s.n s).trans (fftOp_control _)
  have ha := peakOp_appended (fftOp (loopUp winElem s.n s))
  obtain ⟨hw, he, hf, hq, hh⟩ := peakOp_keeps (fftOp (loopUp winElem s.n s))
  refine ⟨⟨?_, ?_, ?_⟩, hw.trans hc.wave, hc.extractor.trans he, hc.faults.trans hf, hc.sequencer.trans hq,
    hc.hostSide.trans hh, ?_⟩
  · rw [ha.res, hc.results.res]
  · exact Nat.lt_of_lt_of_eq ha.pkidx hc.n_eq
  · rw [ha.rcount, hc.results.rcount]
  · rw [peakOp_buf, hc.bufLength]

/-- A block inside the Waveform goes through. -/
theorem pipelineOp_runs (s : State) (h : s.cur.toNat + s.n ≤ s.wlen.toNat) :
    ∃ t, pipelineOp s = .next t ∧ Pipelined s t := by
  have hr := pipelineOp_eq_next (s := s) (t := peakOp (fftOp (loopUp winElem s.n s))) |>.2
    ⟨by have := s.wlen.isLt; omega, rfl⟩
  exact ⟨_, hr, pipelineOp_pipelined hr⟩

/-! ### RUN's loop (R195, R196) -/

/-- Where no block is left RUN's loop ends at once, whatever fuel it has. -/
theorem runLoop_stops {s : State} (h : runContinues (extractOp s) = false) (fuel : Nat) :
    runLoop (fuel + 1) s = .next (extractOp s) := by
  simp [runLoop, h]

/-- Where a block is left RUN's loop processes it and goes on from there. -/
theorem runLoop_goes_on {s t : State} (h : runContinues (extractOp s) = true) (ht : pipelineOp (extractOp s) = .next t)
    (fuel : Nat) : runLoop (fuel + 1) s = runLoop fuel t := by
  simp [runLoop, h, ht]

/-- A turn that goes on found a block: EXH = 0, the block fits, and EXTRACT yielded it. -/
theorem runContinues_extractOp {s : State} (h : runContinues (extractOp s) = true) :
    s.exh = false ∧ s.left.toNat + s.n ≤ s.wlen.toNat ∧
      extractOp s = { s with cur := s.left, bv := true, left := s.left + BitVec.ofNat 32 s.cfg.stepSize } := by
  obtain ⟨he, hs⟩ | ⟨he, hf, hs⟩ | ⟨-, -, hs⟩ := extractOp_cases s
  · rw [hs] at h
    simp [runContinues, he] at h
  · exact ⟨he, hf, hs⟩
  · rw [hs] at h
    simp [runContinues] at h

/-- A turn that goes on completes, and leaves LEFT one stride further, with the same WLEN and configuration. -/
theorem runLoop_turn {s : State} (h : runContinues (extractOp s) = true) :
    ∃ t, pipelineOp (extractOp s) = .next t ∧ Pipelined (extractOp s) t ∧ t.left.toNat = s.left.toNat + s.cfg.stepSize ∧
      t.wlen = s.wlen ∧ t.cfg = s.cfg ∧ t.cur = s.left ∧ t.bv = true ∧ t.exh = false := by
  obtain ⟨he, hf, hx⟩ := runContinues_extractOp h
  obtain ⟨t, ht, hp⟩ := pipelineOp_runs (extractOp s) (by rw [hx]; exact hf)
  refine ⟨t, ht, hp, ?_, ?_, ?_, ?_, ?_, ?_⟩
  · rw [hp.extractor.left, hx]; exact left_add_stepSize s hf
  · rw [hp.extractor.wlen, hx]
  · rw [hp.hostSide.cfg, hx]
  · rw [hp.extractor.cur, hx]
  · rw [hp.extractor.bv, hx]
  · rw [hp.extractor.exh, hx, ← he]

/-- R196: RUN's loop completes on any fuel above `WLEN - LEFT`, and more fuel changes nothing. -/
theorem runLoop_completes (fuel : Nat) (s : State) (h : s.wlen.toNat < fuel + s.left.toNat) (hf : 0 < fuel) :
    ∃ t, runLoop fuel s = .next t ∧ ∀ more, runLoop (fuel + more) s = .next t := by
  induction fuel generalizing s with
  | zero => omega
  | succ fuel ih =>
    by_cases hc : runContinues (extractOp s) = true
    · obtain ⟨t, ht, -, hl, hw, -⟩ := runLoop_turn hc
      obtain ⟨-, hfit, -⟩ := runContinues_extractOp hc
      have hb := Config.bounds s.cfg
      have hn : s.n = s.cfg.blockSize := rfl
      obtain ⟨u, hu, hm⟩ := ih t (by rw [hw, hl]; omega) (by omega)
      refine ⟨u, by rw [runLoop_goes_on hc ht]; exact hu, fun more => ?_⟩
      rw [Nat.add_right_comm, runLoop_goes_on hc ht]
      exact hm more
    · have hc : runContinues (extractOp s) = false := by simpa using hc
      refine ⟨_, runLoop_stops hc fuel, fun more => ?_⟩
      rw [Nat.add_right_comm]
      exact runLoop_stops hc _

/-- R196: RUN's fuel is enough: any loop with as much fuel or more gives RUN's result. -/
theorem runLoop_eq_execRun (s : State) (fuel : Nat) (h : s.wlen.toNat < fuel + s.left.toNat) (hf : 0 < fuel) :
    runLoop fuel s = execRun s := by
  obtain ⟨t, ht, hm⟩ := runLoop_completes fuel s h hf
  obtain ⟨u, hu, hk⟩ := runLoop_completes (runFuel s) s (by unfold runFuel; omega) (by unfold runFuel; omega)
  unfold execRun
  rw [hu, ht]
  rcases Nat.le_total fuel (runFuel s) with hle | hle
  · have := hm (runFuel s - fuel)
    rw [Nat.add_sub_cancel' hle, hu] at this
    exact this.symm
  · have := hk (fuel - runFuel s)
    rw [Nat.add_sub_cancel' hle, ht] at this
    exact this

end Sys2Proof.Machine
end

