-- ==== Sys2Proof/Laws/Real.lean ====
section
/-! SUPPORT. Laws of the real operations that hold by their form: what a produced NaN is, and which operands give one
(R113, R114, R117, R121). -/

namespace Sys2Proof

/-- A pair of words one after the other, as a number. -/
theorem toNat_append_add {m n : Nat} (a : BitVec m) (b : BitVec n) :
    (a ++ b).toNat = a.toNat * 2 ^ n + b.toNat := by
  rw [BitVec.toNat_append, ← Nat.shiftLeft_add_eq_or_of_lt b.isLt, Nat.shiftLeft_eq]

/-- The datum of a produced NaN, as a number. -/
theorem qnan_toNat (d : Nat) :
    ∃ p q : Nat, q < 2 ^ 51 ∧ (qnan d).toNat = p * 2 ^ 63 + 4095 * 2 ^ 51 + q := by
  refine ⟨((Config.nanBits d).extractLsb' 51 1).toNat, ((Config.nanBits d).extractLsb' 0 51).toNat,
    ((Config.nanBits d).extractLsb' 0 51).isLt, ?_⟩
  have h : (qnan d).toNat = _ := toNat_append_add _ _
  rw [h, toNat_append_add]
  simp only [BitVec.toNat_ofNat]
  omega

/-- R121: every produced NaN is a NaN, whatever its free sign and payload. -/
@[simp] theorem isNaN_qnan (d : Nat) : isNaN (qnan d) = true := by
  obtain ⟨p, q, hq, h⟩ := qnan_toNat d
  simp only [isNaN, infMag, magBits, h, decide_eq_true_eq]
  omega

/-- R121: it is quiet: its first fraction bit is 1. -/
theorem qnan_quiet (d : Nat) : (qnan d).toNat / 2 ^ 51 % 2 = 1 := by
  obtain ⟨p, q, hq, h⟩ := qnan_toNat d
  omega

/-- R117: nothing is less than a NaN. -/
theorem flt_nan_right (a : F64) {b : F64} (h : isNaN b = true) : flt a b = false := by simp [flt, h]

/-- R117: a NaN is less than nothing. -/
theorem flt_nan_left {a : F64} (b : F64) (h : isNaN a = true) : flt a b = false := by simp [flt, h]

/-- R113: a NaN operand gives the operation's NaN. -/
theorem fadd_nan (d : Nat) (a b : F64) (h : isNaN a = true ∨ isNaN b = true) : fadd d a b = qnan d := by
  rcases h with h | h <;> simp [fadd, h]

theorem fmul_nan (d : Nat) (a b : F64) (h : isNaN a = true ∨ isNaN b = true) : fmul d a b = qnan d := by
  rcases h with h | h <;> simp [fmul, h]

theorem fsqrt_nan (d : Nat) (a : F64) (h : isNaN a = true) : fsqrt d a = qnan d := by simp [fsqrt, h]

/-- R120: a magnitude with a NaN part is a NaN. -/
theorem cmag_nan (d : Nat) (z : Cplx) (h : isNaN z.re = true ∨ isNaN z.im = true) : cmag d z = qnan (d + 3) := by
  refine fsqrt_nan _ _ ?_
  rcases h with h | h
  · rw [fadd_nan _ _ _ (.inl (by rw [fmul_nan _ _ _ (.inl h)]; exact isNaN_qnan _))]
    exact isNaN_qnan _
  · rw [fadd_nan _ _ _ (.inr (by rw [fmul_nan _ _ _ (.inl h)]; exact isNaN_qnan _))]
    exact isNaN_qnan _

end Sys2Proof
end

