-- ==== Sys2Proof/Laws/Trig.lean ====
section
/-! SUPPORT. The constant `halfPi` computed by Machin's formula, and the small laws of the checked rounding. -/

namespace Sys2Proof

/-- `1/k - 1/((k+2) n^2) + ...`, `fuel` terms, each cut to an integer: `t = 2^P / n^k` on entry. -/
def arctanInv (n : Nat) : (fuel k t : Nat) → Int
  | 0, _, _ => 0
  | fuel + 1, k, t => ((t / k : Nat) : Int) - arctanInv n fuel (k + 2) (t / (n * n))

/-- `pi / 2 = 8 arctan(1/5) - 2 arctan(1/239)`, with 64 bits more than `piBits`. -/
def machinHalfPi : Int :=
  8 * arctanInv 5 330 1 (2 ^ (piBits + 64) / 5) - 2 * arctanInv 239 330 1 (2 ^ (piBits + 64) / 239)

/-- The literal is what Machin's formula gives, with its 64 extra bits cut off; they are far from 0 and from `2^64`, so
the few hundred cut terms do not reach `halfPi`. -/
theorem halfPi_eq_machin : machinHalfPi / 2 ^ 64 = halfPi ∧ 2 ^ 62 < machinHalfPi % 2 ^ 64 ∧ machinHalfPi % 2 ^ 64 < 2 ^ 63 := by
  decide +kernel

/-- Where the rounding is decided it does not depend on the free choice. -/
theorem roundChecked_of_decided {y : Int} (h : decided y = true) (up : Bool) :
    roundChecked y up = roundFix (y - fixErr) := by simp [roundChecked, h]

/-- In any case the result is one end of the interval, rounded. -/
theorem roundChecked_cases (y : Int) (up : Bool) :
    roundChecked y up = roundFix (y - fixErr) ∨ roundChecked y up = roundFix (y + fixErr) := by
  unfold roundChecked
  split
  · exact .inl rfl
  · cases up
    · exact .inl rfl
    · exact .inr rfl

end Sys2Proof
end

