-- ==== Sys2Proof/Tests/Slice0.lean ====
section
/-! SUPPORT. Tests: ill-formed terms refused, the spec's vectors (95_test_vectors.md, 96_programs.md) on small instances,
one step each, and a witness for every statement that has hypotheses. Expected values are the spec's; each test names
its vector. -/

namespace Sys2Proof.Tests

open Sys2Proof Sys2Proof.Machine

/-! ### Helpers -/

/-- The next state, if there is one. -/
def nextOf (r : Result) : Option State :=
  match r with
  | .next s => some s
  | .fault _ => none
  | .refused _ => none

/-- The outcome is a next state with a property. -/
def gives (r : Result) (p : State → Bool) : Bool := (nextOf r).any p

theorem gives_next {r : Result} {p : State → Bool} (h : gives r p = true) : ∃ t, r = .next t ∧ p t = true := by
  cases r with
  | next s => exact ⟨s, rfl, h⟩
  | fault e => cases h
  | refused e => cases h

/-- `N = 8`, `S = 2`. -/
def cfg8 : Config := { blockSize := 8, stepSize := 2, num := .reference }

/-- `N = 4`, `S = 2`. -/
def cfg4 : Config := { blockSize := 4, stepSize := 2, num := .reference }

/-- Samples from number 0 on. -/
def samples (l : List Int) : Memory :=
  (l.zipIdx.foldl (fun m p => waveWrite m p.2 (BitVec.ofInt 16 p.1)) [])

/-- Real parts, with imaginary part `+0.0`. -/
def reals (l : List F64) : Buffer := l.map fun x => ⟨x, 0⟩

/-- After reset, `N = 8`. -/
def at8 : State := { State.reset with cfg := cfg8, buf := Buffer.zeros 8 }

/-- After reset, `N = 4`. -/
def at4 : State := { State.reset with cfg := cfg4, buf := Buffer.zeros 4 }

/-- The block of V22 in WAVE, WLEN = 8, extracted. -/
def block22 : State :=
  { at8 with wave := samples [100, -200, 300, 400, -500, 600, 700, -800], wlen := 8, left := 2, bv := true }

/-- P3's start. -/
def start3 : State := { at4 with wave := samples [1000, -2000, 3000, -4000, 5000, -6000], wlen := 6 }

/-- BUF of V40 (a). -/
def buf40a : Buffer :=
  [⟨fOne, fOne⟩, ⟨0x4008000000000000, 0x4010000000000000⟩, ⟨0x4014000000000000, 0⟩, ⟨0, 0xC014000000000000⟩,
    ⟨0xC010000000000000, 0x4008000000000000⟩, ⟨0, 0⟩, ⟨0xC014000000000000, 0⟩, ⟨0x4018000000000000, 0x4020000000000000⟩]

/-- BUF of V34. -/
def buf34 : Buffer :=
  [⟨fOne, fTwo⟩, ⟨0x4008000000000000, 0xBFF0000000000000⟩, ⟨0, fHalf⟩, ⟨0xC000000000000000, 0x4010000000000000⟩]

/-! ### Well-formedness and configurations -/

theorem test_wf_pass_zero_refused : (Instr.pass 0).wellFormed .default = false := by decide
theorem test_wf_pass_above_refused : (Instr.pass 13).wellFormed .default = false := by decide
theorem test_wf_pass_small_refused : (Instr.pass 4).wellFormed cfg8 = false := by decide
theorem test_wf_pass_last : (Instr.pass 12).wellFormed .default = true := by decide
theorem test_config_not_power : configLegal 12 4 = false := by decide
theorem test_config_one : configLegal 1 1 = false := by decide
theorem test_config_too_large : configLegal (2 ^ 31) 1 = false := by decide
theorem test_config_step_zero : configLegal 8 0 = false := by decide
theorem test_config_step_block : configLegal 8 8 = false := by decide
theorem test_config_largest : configLegal (2 ^ 30) (2 ^ 30 - 1) = true := by decide

/-! ### Encodings, V10 to V13: the words written out as OPC, ARG, ZERO -/

theorem test_decode_rewind : decode .default (0#16 ++ 0#8 ++ 0b00000001#8) = .ok .rewind := by decide
theorem test_decode_extract : decode .default (0#16 ++ 0#8 ++ 0b00000010#8) = .ok .extract := by decide
theorem test_decode_window : decode .default (0#16 ++ 0#8 ++ 0b00000011#8) = .ok .window := by decide
theorem test_decode_bitrev : decode .default (0#16 ++ 0#8 ++ 0b00000100#8) = .ok .bitrev := by decide
theorem test_decode_pass3 : decode .default (0#16 ++ 0b00000011#8 ++ 0b00000101#8) = .ok (.pass 3) := by decide
theorem test_decode_pass12 : decode .default (0#16 ++ 0b00001100#8 ++ 0b00000101#8) = .ok (.pass 12) := by decide
theorem test_decode_fft : decode .default (0#16 ++ 0#8 ++ 0b00000110#8) = .ok .fft := by decide
theorem test_decode_peak : decode .default (0#16 ++ 0#8 ++ 0b00000111#8) = .ok .peak := by decide
theorem test_decode_block : decode .default (0#16 ++ 0#8 ++ 0b00001000#8) = .ok .block := by decide
theorem test_decode_run : decode .default (0#16 ++ 0#8 ++ 0b00001001#8) = .ok .run := by decide

/-- V11: every listed word is ILLEGAL. -/
theorem test_decode_illegal :
    [0x00000000, 0x0000000A, 0x000000FF, 0xFFFFFFFF, 0x00010001, 0x80000009, 0x00000101, 0x00000C06, 0x00000005,
      0x00000D05, 0x0000FF05, 0x00010305].all (fun x : Word => (decode .default x).toOption == none) = true := by
  decide

/-- V13: PASS 4 is ILLEGAL for `N = 8`, PASS 3 is not. -/
theorem test_decode_small : (decode cfg8 0x00000405).toOption = none ∧ decode cfg8 0x00000305 = .ok (.pass 3) := by
  decide

theorem test_table_word_pass : decodeTableWord 32 0x00000105 = some (.pass 1) := by decide

/-! ### Index arithmetic, V30 -/

theorem test_rev_three : (List.range 8).map (rev · 3) = [0, 4, 2, 6, 1, 5, 3, 7] := by decide
theorem test_rev_twelve : rev 1 12 = 2048 ∧ rev 3 12 = 3072 ∧ rev 1023 12 = 4092 ∧ rev 240 12 = 240 := by decide

/-! ### Real arithmetic -/

/-- R111: `TWO_PI = fmul(2.0, PI)`. -/
theorem test_two_pi : fmul 0 fTwo fPi = fTwoPi := by decide +kernel

/-- R120, V40: `cmag((3, 4)) = 5`, `cmag((1, 1))`. -/
theorem test_cmag :
    cmag 0 ⟨0x4008000000000000, 0x4010000000000000⟩ = 0x4014000000000000 ∧
      cmag 0 ⟨fOne, fOne⟩ = 0x3FF6A09E667F3BCD := by
  decide +kernel

/-- V22: the corner cases of the sample conversion. -/
theorem test_ofInt16 :
    ofInt16 0x8000 = 0xC0E0000000000000 ∧ ofInt16 0x7FFF = 0x40DFFFC000000000 ∧ ofInt16 0xFFFF = 0xBFF0000000000000 ∧
      ofInt16 0x0000 = 0x0000000000000000 := by
  decide +kernel

/-- R113: overflow to infinity, gradual underflow, a tie to even (`1 + 2^-53`). -/
theorem test_rounding :
    fadd 0 0x7FEFFFFFFFFFFFFF 0x7FEFFFFFFFFFFFFF = 0x7FF0000000000000 ∧ fmul 0 0x0010000000000000 fHalf = 0x0008000000000000 ∧
      fadd 0 fOne 0x3CA0000000000000 = fOne := by
  decide +kernel

/-- R117: signed zeros are equal, and a NaN is not less. -/
theorem test_flt : flt 0x8000000000000000 0 = false ∧ flt 0x7FF8000000000000 fOne = false ∧ flt fOne fTwo = true := by
  decide +kernel

/-- R116, rows 3 and 12. -/
theorem test_twiddle :
    twiddleOf .default 0 3 = ⟨0x3FE6A09E667F3BCD, 0x3FE6A09E667F3BCC⟩ ∧
      twiddleOf .default 0 12 = ⟨0x3FEFFFFD88586EE6, 0x3F5921FAAEE6472D⟩ := by
  decide +kernel

/-- R115 far beyond the CORE's angles: `cos(10^22) = 0.52321478539513894546` and
`sin(10^22) = -0.85220084976718880177`, rounded (by hand from 28 digits). -/
theorem test_trig_large :
    refCos 0x4480F0CF064DD592 = 0x3FE0BE2CEF01C8F4 ∧ refSin 0x4480F0CF064DD592 = 0xBFEB453AB76BF397 := by
  decide +kernel

/-- V20: the Hann coefficients for `N = 8`; they are not symmetric. -/
theorem test_hann8 :
    (List.range 8).map (hann cfg8 0) =
      [0x0000000000000000, 0x3FC818BE3AE8245C, 0x3FE38F721C6048B0, 0x3FEE6A5E54E5AE38, 0x3FEE6A5E54E5AE38,
        0x3FE38F721C6048B1, 0x3FC818BE3AE82460, 0x0000000000000000] := by
  decide +kernel

/-- V21: `N = 4096`, indices 2047 and 3072. -/
theorem test_hann4096 : hann .default 0 2047 = 0x3FEFFFFFB1012D8E ∧ hann .default 0 3072 = 0x3FDFF692AB0DFD7B := by
  decide +kernel

/-! ### Extractor -/

/-- R141's example. -/
theorem test_rewind :
    gives (step ({ State.reset with left := 3072, cur := 2048, bv := true, wlen := 6644 }.withFetchWord 32 1))
      (fun t => t.left == 0 && t.cur == 0 && !t.bv && !t.exh && t.wlen == 6644) = true := by decide

/-- V17, third and fourth EXTRACT. -/
theorem test_extract :
    gives (step ({ State.reset with left := 2048, cur := 1024, bv := true, wlen := 6644 }.withFetchWord 32 2))
        (fun t => t.left == 3072 && t.cur == 2048 && t.bv && !t.exh) = true ∧
      gives (step ({ State.reset with left := 3072, cur := 2048, bv := true, wlen := 6644 }.withFetchWord 32 2))
        (fun t => t.left == 3072 && t.cur == 2048 && !t.bv && t.exh) = true := by decide

/-- V18: no wrap at the largest length. -/
theorem test_extract_largest :
    gives (step ({ State.reset with left := 0xFFFFEC00, wlen := 0xFFFFFFFF }.withFetchWord 32 2))
        (fun t => t.left == 0xFFFFF000 && t.cur == 0xFFFFEC00 && t.bv) = true ∧
      gives (step ({ State.reset with left := 0xFFFFF000, wlen := 0xFFFFFFFF }.withFetchWord 32 2))
        (fun t => t.left == 0xFFFFF000 && !t.bv && t.exh) = true := by decide

/-! ### Windower -/

/-- V22. -/
theorem test_window :
    gives (step (block22.withFetchWord 32 3)) (fun t =>
      t.buf == reals [0x0000000000000000, 0xC042D3549E055C68, 0x4066EC19B940D52E, 0x4077C319B253701C,
        0xC07DB3E01EE84C23, 0x4076EC19B940D52F, 0x406078EA0A44B0DE, 0x8000000000000000] && t.bv) = true := by
  decide +kernel

/-- V62, P4: WINDOW after reset. -/
theorem test_window_no_block :
    gives (step (State.reset.withFetchWord 32 3)) (fun t => statusWord t == 0x28 && t.finfo == 3) = true := by decide

/-! ### FFT Engine -/

/-- V30, with NaN bits moved unchanged. -/
theorem test_bitrev :
    gives (step ({ at8 with buf := reals [0, 1, 2, 0x7FF8000000000123, 4, 5, 6, 7] }.withFetchWord 32 4)) (fun t =>
      t.buf == reals [0, 4, 2, 6, 1, 5, 0x7FF8000000000123, 7]) = true := by decide

/-- V33, PASS 2 on what PASS 1 left. -/
theorem test_pass_two :
    gives (step ({ at8 with buf := reals [0x4010000000000000, 0xC010000000000000, 0x4020000000000000,
        0xC010000000000000, 0x4018000000000000, 0xC010000000000000, 0x4024000000000000,
        0xC010000000000000] }.withFetchWord 32 0x205)) (fun t =>
      t.buf.take 4 == [⟨0x4028000000000000, 0⟩, ⟨0xC010000000000000, 0xC010000000000000⟩, ⟨0xC010000000000000, 0⟩,
        ⟨0xC00FFFFFFFFFFFFF, 0x4010000000000000⟩]) = true := by
  decide +kernel

/-- V61, `N = 8`: PASS 4 faults. -/
theorem test_pass_out_of_range :
    gives (step (at8.withFetchWord 32 0x405)) (fun t => statusWord t == 0x18 && t.finfo == 0x405) = true := by decide

/-- V34, P5. -/
theorem test_fft :
    gives (step ({ at4 with buf := buf34 }.withFetchWord 32 6)) (fun t =>
      t.buf == [⟨0x4000000000000000, 0x4016000000000000⟩, ⟨0x4018000000000000, 0x401A000000000000⟩,
        ⟨0, 0xBFE0000000000000⟩, ⟨0xC010000000000000, 0xC00C000000000000⟩]) = true := by
  decide +kernel

/-! ### Aggregator -/

/-- V40 (a). -/
theorem test_peak :
    gives (step ({ at8 with buf := buf40a }.withFetchWord 32 7)) (fun t =>
      t.res == [0x4024000000000000] && t.pkidx == 7 && t.pkmag == 0x4024000000000000 && t.rcount == 1) = true := by
  decide +kernel

/-- V43 (c): the first infinity wins. -/
theorem test_peak_infinity :
    gives (step ({ at8 with buf := (buf40a.set 2 ⟨0x7FF0000000000000, 0⟩).set 5 ⟨0, 0xFFF0000000000000⟩ }.withFetchWord
      32 7)) (fun t => t.res == [0x7FF0000000000000] && t.pkidx == 2) = true := by
  decide +kernel

/-- P3, the first BLOCK. -/
theorem test_block :
    gives (step (start3.withFetchWord 32 8)) (fun t =>
      t.res == [0x40AD4C0000000000] && t.pkidx == 2 && t.left == 2 && t.cur == 0 && statusWord t == 2 &&
        t.buf == [⟨0x4087700000000006, 0⟩, ⟨0xC0A1940000000001, 0xC0976FFFFFFFFFFF⟩, ⟨0x40AD4C0000000000, 0⟩,
          ⟨0xC0A1940000000001, 0x40976FFFFFFFFFFF⟩]) = true := by
  decide +kernel

/-- P3, the third BLOCK. -/
theorem test_block_exhausted :
    gives (step ({ start3 with left := 4, cur := 2, bv := true }.withFetchWord 32 8)) (fun t =>
      statusWord t == 4 && t.left == 4 && t.cur == 2 && t.res == []) = true := by decide +kernel

/-- P3's end state, by RUN. -/
theorem test_run :
    gives (step (start3.withFetchWord 32 9)) (fun t =>
      t.res == [0x40AD4C0000000000, 0x40BA5E0000000000] && t.left == 4 && t.cur == 2 && statusWord t == 4 &&
        t.rcount == 2 && t.pkidx == 2) = true := by
  decide +kernel

/-- V1: one sample short. -/
theorem test_run_short :
    gives (step ({ State.reset with wlen := 4095 }.withFetchWord 32 9)) (fun t =>
      t.res == [] && t.rcount == 0 && t.left == 0 && statusWord t == 4) = true := by decide

/-! ### Faults, reset, host (V60, V63 to V65) -/

/-- V60 with BV = 1. -/
theorem test_illegal_keeps_flags :
    gives (step ({ State.reset with wlen := 4096, left := 1024, bv := true }.withFetchWord 32 0)) (fun t =>
      statusWord t == 0x1A && t.finfo == 0 && t.left == 1024) = true := by decide

/-- A faulted state: V63 after `CMD <- 0x0000000A`. -/
def faulted : State := { at8 with fault := true, cause := 1, finfo := 0x0A, wlen := 4096 }

/-- V63: commands are discarded, and a WLEN write takes effect. -/
theorem test_discarded :
    gives (step (faulted.withFetchWord 32 2)) (fun t => t == faulted) = true ∧
      gives (step { faulted with host := [.writeCsr 2 5000] }) (fun t => t.wlen == 5000 && statusWord t == 0x18) = true := by
  decide

/-- V64. -/
theorem test_reset :
    gives (step { faulted with host := [.reset], wave := samples [7] }) (fun t =>
      statusWord t == 0 && t.finfo == 0 && t.wlen == 0 && t.wave == samples [7] && csrRead t 0 == 8 && csrRead t 1 == 2) =
      true := by
  decide

/-- V65. -/
theorem test_no_effect :
    gives (step { at8 with host := [.writeCsr 5 77] }) (fun t => t == at8) = true ∧
      gives (step { at8 with host := [.readCsr 11] }) (fun t => t.reads == [0]) = true ∧
      gives (step { at8 with host := [.readCsr 3] }) (fun t => t.reads == [0]) = true := by
  decide

/-- R62: the last location is the imaginary part of the last entry; the one after it is not there. -/
theorem test_buf_locations :
    gives (step { at8 with host := [.writeBuf 15 9] }) (fun t => bufRead t.buf 7 == ⟨0, 9⟩) = true ∧
      gives (step { at8 with host := [.writeBuf 16 9] }) (fun t => t == at8) = true := by
  decide

/-- R65: sample `-2` at number 3 lies in bytes 6 (low) and 7 (high). -/
theorem test_wave_bytes :
    gives (step { at8 with host := [.writeWave 3 0xFFFE] }) (fun t => t.wave == [(6, 0xFE), (7, 0xFF)]) = true := by
  decide

/-- R65: WLEN is register 2, bytes 16 to 23: a store to its high half is ignored, and the high half of a 64-bit store. -/
theorem test_csr_bytes :
    gives (step { at8 with host := [.storeCsr32 4 77] }) (fun t => t.wlen == 77) = true ∧
      gives (step { at8 with host := [.storeCsr32 5 77] }) (fun t => t == at8) = true ∧
      gives (step { at8 with host := [.storeCsr64 2 0xFFFFFFFF0000004D] }) (fun t => t.wlen == 77) = true := by
  decide

/-- R15, R44: PASS 1 (`N = 4`) by micro-steps ends in the state of the atomic command. -/
theorem test_micro_pass :
    (match core.run 4 { at4 with buf := buf34, host := [.beginCmd 0x105] } with
      | .next t => gives (step ({ at4 with buf := buf34 }.withFetchWord 32 0x105)) (fun u => u == t)
      | .fault _ => false
      | .refused _ => false) = true := by
  decide +kernel

/-- R73: STATUS reads BUSY = 1 after acceptance, and a BUF read is held. -/
theorem test_busy :
    (match core.run 3 { at4 with host := [.beginCmd 4, .readCsr 4, .readBuf 0] } with
      | .next t => t.reads == [1] && t.busy && t.host == [.readBuf 0]
      | .fault _ => false
      | .refused _ => false) = true := by
  decide +kernel

/-! ### Witnesses: states and operands that meet the hypotheses of each statement, one theorem a statement or clause -/

/-- A state at rest meets the invariant if its decidable parts hold. -/
theorem restInv (s : State) (hw : Memory.wf s.wave = true) (hb : Buffer.wf s.n s.buf = true)
    (hc : s.bv = true → s.cur.toNat + s.n ≤ s.wlen.toNat) (hf : ¬(s.bv = true ∧ s.exh = true))
    (hl : s.cfg.stepSize ∣ s.left.toNat) (hp : s.pkidx.toNat < s.n) (hr : s.rcount = BitVec.ofNat 32 s.res.length)
    (h0 : s.fault = false) (h1 : s.cause = 0) (h2 : s.finfo = 0) (h3 : s.busy = false) (h4 : s.seq = Seq.idle) :
    s.Inv :=
  ⟨hw, hb, hc, hf, hl, hp, hr, by simp [faultRecordOk, h0, h1, h2], by simp [seqOk, h3, h4]⟩

/-- What the host has pending plays no part in the invariant. -/
theorem inv_host {s : State} (h : s.Inv) (l : List HostOp) : State.Inv { s with host := l } :=
  ⟨h.waveWf, h.bufWf, h.blockInside, h.flagsExclusive, h.leftOnStride, h.peakIndex, h.resultCount, h.faultRecord,
    h.sequencer⟩

/-- `at8` with any operations pending meets the invariant. -/
theorem inv_at8 (l : List HostOp) : State.Inv { at8 with host := l } :=
  inv_host (restInv at8 (by decide) (by decide) (by decide) (by decide) (by decide) (by decide) rfl rfl rfl rfl rfl rfl) l

/-- `block22`, with a current block, meets the invariant. -/
theorem inv_block22 (l : List HostOp) : State.Inv { block22 with host := l } :=
  inv_host (restInv block22 (by decide) (by decide) (by decide) (by decide) (by decide) (by decide) rfl rfl rfl rfl rfl
    rfl) l

/-- A faulted state meets the invariant. -/
theorem inv_faulted (l : List HostOp) : State.Inv { faulted with host := l } := by
  refine inv_host ⟨by decide, by decide, by decide, by decide, by decide, by decide, rfl, ?_, ?_⟩ l
  · exact .inl ⟨rfl, .opcode, rfl⟩
  · rfl

/-- FFT in execution, at BITREV's index 3. -/
def busy8 : State :=
  { at8 with busy := true, seq := { cmd := some 6, stage := .bitrev, s := 1, i := 3, j := 0 } }

theorem inv_busy8 (l : List HostOp) : State.Inv { busy8 with host := l } := by
  refine inv_host (s := busy8)
    ⟨by decide, by decide, by decide, by decide, by decide, by decide, rfl, ⟨rfl, rfl⟩, ?_⟩ l
  exact ⟨rfl, .fft, rfl, .inr (.inl rfl), by decide⟩

theorem test_witness_DecodeOfEncode :
    (Instr.pass 1).wellFormed .default = true ∧ (Instr.pass 12).wellFormed .default = true := by decide

theorem test_witness_EncodeOfDecode : decode .default 0x00000C05 = .ok (.pass 12) := by decide

theorem test_witness_StepRunsDecodedCommand :
    ∃ (s : State) (rest : List HostOp), s.busy = false ∧ s.fault = false ∧ s.host = .writeCsr 3 8 :: rest ∧
      registerWrite (.writeCsr 3 8) = some (3, 8) ∧ decode s.cfg 8 = .ok .block :=
  ⟨start3.withFetchWord 32 8, [], rfl, rfl, rfl, rfl, by decide⟩

/-- The stores of a byte-addressed binding that write CMD: at byte 24, the low half and the whole of register 3. -/
theorem test_witness_StepRunsDecodedCommand_stores :
    ∃ s t : State, s.host = [.storeCsr32 6 8] ∧ registerWrite (.storeCsr32 6 8) = some (3, 8) ∧
      t.host = [.storeCsr64 3 0xFFFFFFFF00000008] ∧ registerWrite (.storeCsr64 3 0xFFFFFFFF00000008) = some (3, 8) ∧
      s.busy = false ∧ s.fault = false ∧ decode s.cfg 8 = .ok .block :=
  ⟨{ start3 with host := [.storeCsr32 6 8] }, { start3 with host := [.storeCsr64 3 0xFFFFFFFF00000008] }, rfl, rfl, rfl,
    rfl, rfl, rfl, by decide⟩

theorem test_witness_CommandAcceptanceOrder_discarded :
    ∃ s : State, s.busy = false ∧ s.seq = Seq.idle ∧ s.host = [.writeCsr 3 9] ∧
      registerWrite (.writeCsr 3 9) = some (3, 9) ∧ s.fault = true :=
  ⟨{ faulted with host := [.writeCsr 3 9] }, rfl, rfl, rfl, rfl, rfl⟩

theorem test_witness_CommandAcceptanceOrder_illegal :
    ∃ s : State, s.busy = false ∧ s.seq = Seq.idle ∧ s.host = [.storeCsr32 6 0x405] ∧
      registerWrite (.storeCsr32 6 0x405) = some (3, 0x405) ∧ s.fault = false ∧
      (decode s.cfg 0x405).toOption = none :=
  ⟨{ at8 with host := [.storeCsr32 6 0x405] }, rfl, rfl, rfl, rfl, rfl, by decide⟩

theorem test_witness_CommandAcceptanceOrder_noBlock :
    ∃ s : State, s.busy = false ∧ s.seq = Seq.idle ∧ s.host = [.writeCsr 3 3] ∧
      registerWrite (.writeCsr 3 3) = some (3, 3) ∧ s.fault = false ∧ decode s.cfg 3 = .ok .window ∧ s.bv = false :=
  ⟨{ at8 with host := [.writeCsr 3 3] }, rfl, rfl, rfl, rfl, rfl, by decide, rfl⟩

theorem test_witness_CommandAcceptanceOrder_executed :
    ∃ s : State, s.busy = false ∧ s.seq = Seq.idle ∧ s.host = [.writeCsr 3 3] ∧
      registerWrite (.writeCsr 3 3) = some (3, 3) ∧ s.fault = false ∧ decode s.cfg 3 = .ok .window ∧ s.bv = true :=
  ⟨{ block22 with host := [.writeCsr 3 3] }, rfl, rfl, rfl, rfl, rfl, by decide, rfl⟩

theorem test_witness_FaultsArePrecise :
    ∃ s t : State, s.Inv ∧ step s = .next t ∧ s.fault = false ∧ t.fault = true := by
  obtain ⟨t, ht, hf⟩ := gives_next (r := step { at8 with host := [.writeCsr 3 3] }) (p := State.fault) (by decide)
  exact ⟨_, t, inv_at8 _, ht, rfl, hf⟩

theorem test_witness_FaultIsSticky :
    ∃ s t : State, s.Inv ∧ step s = .next t ∧ s.fault = true ∧ s.host.head? ≠ some .reset ∧
      ∀ op x, s.host.head? = some op → registerWrite op ≠ some (2, x) := by
  obtain ⟨t, ht, -⟩ := gives_next (r := step { faulted with host := [.writeCsr 3 9] }) (p := State.fault) (by decide)
  refine ⟨_, t, inv_faulted _, ht, rfl, by decide, fun op x h e => ?_⟩
  obtain rfl : HostOp.writeCsr 3 9 = op := Option.some.inj h
  cases e

theorem test_witness_HostIsHeldWhileBusy_held :
    ∃ s t : State, s.busy = true ∧ s.host = [.readBuf 0] ∧ HostOp.readBuf 0 ≠ .readCsr 4 ∧
      HostOp.readBuf 0 ≠ .reset ∧ HostOp.readBuf 0 ≠ .wait ∧ step s = .next t := by
  obtain ⟨t, ht, -⟩ := gives_next (r := step { busy8 with host := [.readBuf 0] }) (p := State.busy) (by decide)
  exact ⟨_, t, rfl, rfl, by decide, by decide, by decide, ht⟩

theorem test_witness_HostIsHeldWhileBusy_status : ∃ s : State, s.busy = true ∧ s.host = [.readCsr 4] :=
  ⟨{ busy8 with host := [.readCsr 4] }, rfl, rfl⟩

theorem test_witness_ResetValues : ∃ s : State, s.busy = true ∧ s.host = [.reset] :=
  ⟨{ busy8 with host := [.reset] }, rfl, rfl⟩

theorem test_witness_InvariantKeptByStep : ∃ s t : State, s.Inv ∧ s.busy = true ∧ step s = .next t := by
  obtain ⟨t, ht, -⟩ := gives_next (r := step { busy8 with host := [] }) (p := State.busy) (by decide)
  exact ⟨_, t, inv_busy8 _, rfl, ht⟩

theorem test_witness_MachineNeverStops : ∃ s : State, s.Inv ∧ s.bv = true := ⟨_, inv_block22 [.wait], rfl⟩

theorem test_witness_ResultsOnlyGrow :
    ∃ s t : State, step s = .next t ∧ s.host.head? ≠ some .reset ∧ t.res.length = s.res.length + 1 := by
  obtain ⟨t, ht, hr⟩ := gives_next (r := step (at4.withFetchWord 32 7)) (p := fun t => t.res.length == 1) (by decide +kernel)
  exact ⟨_, t, ht, by decide, eq_of_beq hr⟩

theorem test_witness_OnlyTheHostWritesWave :
    ∃ s t : State, step s = .next t ∧ ∀ a h, s.host.head? ≠ some (.writeWave a h) := by
  obtain ⟨t, ht, -⟩ := gives_next (r := step (at8.withFetchWord 32 2)) (p := State.exh) (by decide)
  exact ⟨_, t, ht, fun a h e => by cases e⟩

theorem test_witness_EveryCommandCompletes :
    Instr.window.wellFormed block22.cfg = true ∧ block22.bv = true ∧
      block22.cur.toNat + block22.n ≤ block22.wlen.toNat := by decide

theorem test_witness_MicroStepsReachAtomicResult :
    ∃ s : State, s.Inv ∧ s.busy = false ∧ s.fault = false ∧ s.host = [.beginCmd 9] ∧ decode s.cfg 9 = .ok .run :=
  ⟨_, inv_block22 [.beginCmd 9], rfl, rfl, rfl, by decide⟩

/-- The largest WLEN, the last block, and the first LEFT beyond it (V18). -/
theorem test_witness_ExtractResult :
    (0xFFFFEC00 : Word).toNat + 4096 ≤ (0xFFFFFFFF : Word).toNat ∧ ¬(0xFFFFF000 : Word).toNat + 4096 ≤ (0xFFFFFFFF : Word).toNat := by
  decide

theorem test_witness_WlenWriteRewinds :
    ∃ s : State, s.busy = false ∧ s.host = [.storeCsr64 2 5000] ∧ registerWrite (.storeCsr64 2 5000) = some (2, 5000) ∧
      s.fault = true :=
  ⟨{ faulted with host := [.storeCsr64 2 5000] }, rfl, rfl, rfl, rfl⟩

/-- The boundary lengths of V3: 7 gives no block, 8 one, 13 three, and the largest of the default instance. -/
theorem test_witness_ExtractSequence :
    start3.left = 0 ∧ start3.exh = false ∧ [7, 8, 13, 14].map (blockCount cfg8) = [0, 1, 3, 4] ∧
      blockCount .default 4294967295 = 4194300 := by decide

theorem test_witness_WindowResult :
    block22.bv = true ∧ block22.cur.toNat + block22.n ≤ 2 ^ 32 ∧ block22.buf.length = block22.n := by decide

theorem test_witness_WindowWithoutBlock : at8.bv = false ∧ at8.busy = false ∧ at8.seq = Seq.idle := by decide

theorem test_witness_BitrevPermutes : at8.buf.length = at8.n := by decide

theorem test_witness_PassResult :
    (1 ≤ (1 : BitVec 8).toNat ∧ (3 : BitVec 8).toNat ≤ at8.cfg.lgn) ∧ at8.buf.length = at8.n ∧ 3 < at8.n / 2 ^ 1 := by
  decide

theorem test_witness_PassOutOfRangeFaults :
    (Instr.pass 0).wellFormed at8.cfg = false ∧ (Instr.pass 4).wellFormed at8.cfg = false ∧
      (Instr.pass 255).wellFormed at8.cfg = false ∧ at8.busy = false ∧ at8.seq = Seq.idle := by decide

theorem test_witness_TransformFrame_window :
    ∃ t, exec .window block22 = .next t ∧ Instr.window.wellFormed block22.cfg = true ∧ block22.bv = true := by
  obtain ⟨t, ht, -⟩ := gives_next (r := exec .window block22) (p := State.bv) (by decide +kernel)
  exact ⟨t, ht, rfl, rfl⟩

theorem test_witness_TransformFrame_fft : ∃ t, exec .fft at4 = .next t ∧ Instr.fft.wellFormed at4.cfg = true :=
  ⟨_, rfl, rfl⟩

theorem test_witness_TransformFrame_bitrev : ∃ t, exec .bitrev at4 = .next t := ⟨_, rfl⟩

theorem test_witness_TransformFrame_pass : ∃ t, exec (.pass 2) at4 = .next t := by
  obtain ⟨t, ht, -⟩ := gives_next (r := exec (.pass 2) at4) (p := fun t => !t.fault) (by decide +kernel)
  exact ⟨t, ht⟩

/-- Both kinds of entry 0: a NaN magnitude (V43 a) and one that is none. -/
theorem test_witness_PeakResult :
    at8.buf.length = at8.n ∧ isNaN (cmag 0 ⟨0x7FF8000000000000, 0⟩) = true ∧ isNaN (cmag 0 ⟨fOne, fOne⟩) = false := by
  refine ⟨by decide, ?_, by decide +kernel⟩
  rw [cmag_nan _ _ (.inl (by decide))]
  exact isNaN_qnan _

theorem test_witness_PeakFrame : ∃ t, exec .peak at8 = .next t := ⟨_, rfl⟩

theorem test_witness_BlockResult : start3.exh = false ∧ start3.left.toNat + start3.n ≤ start3.wlen.toNat := by decide

theorem test_witness_BlockWhenExhausted_is :
    ∃ s : State, ¬(s.bv = true ∧ s.exh = true) ∧ s.exh = true := ⟨{ at8 with exh := true }, by decide, rfl⟩

theorem test_witness_BlockWhenExhausted_becomes :
    ¬(at8.bv = true ∧ at8.exh = true) ∧ at8.exh = false ∧ at8.wlen.toNat < at8.left.toNat + at8.n := by decide

theorem test_witness_RunRepeatsBlock :
    ∃ t, ¬(start3.bv = true ∧ start3.exh = true) ∧ exec .block start3 = .next t ∧ t.exh = false := by
  obtain ⟨t, ht, h⟩ := gives_next (r := exec .block start3) (p := fun t => !t.exh) (by decide +kernel)
  exact ⟨t, by decide, ht, by simpa using h⟩

theorem test_witness_RunResult : ¬(block22.bv = true ∧ block22.exh = true) := by decide

theorem test_witness_RunResultCount :
    start3.left = 0 ∧ start3.exh = false ∧ 0 < blockCount start3.cfg start3.wlen.toNat := by decide

/-- Two states with the same four samples at different places, and different results and BUF. -/
theorem test_witness_ResultDependsOnlyOnSamples :
    ∃ s t : State, s.cfg = t.cfg ∧ s.draws = t.draws ∧ s.buf.length = s.n ∧ t.buf.length = t.n ∧ s.exh = false ∧
      t.exh = false ∧ s.left.toNat + s.n ≤ s.wlen.toNat ∧ t.left.toNat + t.n ≤ t.wlen.toNat ∧ s.left ≠ t.left ∧
      s.buf ≠ t.buf ∧ ∀ i < s.n, waveRead s.wave (s.left.toNat + i) = waveRead t.wave (t.left.toNat + i) := by
  refine ⟨{ at4 with wave := samples [5, 6, 7, 8], wlen := 4 },
    { at4 with wave := samples [1, 2, 5, 6, 7, 8], wlen := 6, left := 2, buf := buf34, res := [fOne] }, rfl, rfl,
    by decide, by decide, rfl, rfl, by decide, by decide, by decide, by decide, ?_⟩
  intro i hi
  have h4 : i < 4 := hi
  interval_cases i <;> rfl

theorem test_witness_RegisterReads : ∃ s : State, s.busy = false ∧ s.host = [.readCsr 10] :=
  ⟨{ at8 with host := [.readCsr 10] }, rfl, rfl⟩

theorem test_witness_OtherRegisterWritesIgnored :
    ∃ s : State, s.busy = false ∧ (4 : Nat) ≠ 2 ∧ (4 : Nat) ≠ 3 ∧ s.host = [.writeCsr 4 1] ∧
      registerWrite (.writeCsr 4 1) = some (4, 1) :=
  ⟨{ at8 with host := [.writeCsr 4 1] }, rfl, by decide, by decide, rfl, rfl⟩

/-- The last location, and the first beyond it. -/
theorem test_witness_HostBufferAccess :
    ∃ s t : State, s.busy = false ∧ s.host = [.writeBuf 15 7] ∧ s.buf.length = s.n ∧ 15 < 2 * s.n ∧ 2 * s.n ≤ 16 ∧
      t.busy = false ∧ t.host = [.readBuf 16] :=
  ⟨{ at8 with host := [.writeBuf 15 7] }, { at8 with host := [.readBuf 16] }, rfl, rfl, rfl, by decide, by decide, rfl,
    rfl⟩

theorem test_witness_HostSampleWrite :
    ∃ s : State, s.busy = false ∧ s.host = [.writeWave 0xFFFFFFFF 0x8000] ∧ Memory.wf s.wave = true :=
  ⟨{ at8 with host := [.writeWave 0xFFFFFFFF 0x8000] }, rfl, rfl, rfl⟩

theorem test_witness_ResultsAreReceivedInOrder :
    ∃ s t : State, s.busy = false ∧ s.host = [.receive] ∧ s.taken < s.res.length ∧ t.busy = false ∧
      t.host = [.receive] ∧ t.res.length ≤ t.taken :=
  ⟨{ at8 with host := [.receive], res := [fOne, fTwo], taken := 1 },
    { at8 with host := [.receive], res := [fOne], taken := 1 }, rfl, rfl, by decide, rfl, rfl, by decide⟩

theorem test_witness_BytesAreLittleEndian : (2 : Nat) ≠ 9 ∧ 4 ≤ 7 ∧ 7 < 8 ∧ at8.busy = false := by decide

theorem test_witness_RevFacts : 7 < 2 ^ 3 ∧ 6 < 2 ^ 3 ∧ rev 7 3 ≠ rev 6 3 := by decide

theorem test_witness_LgIsLeast : 1 ≤ 5 ∧ 5 ≤ 2 ^ 3 := by decide

/-- Finite data at both ends: the smallest subnormal and the largest number, and a divisor that is not zero. -/
theorem test_witness_AddSubRoundOnce : isFinite 0x0000000000000001 = true ∧ isFinite 0x7FEFFFFFFFFFFFFF = true := by
  decide

theorem valueOf_fOne : valueOf fOne = 1 := by
  have h : signedUnits fOne = 2 ^ 1074 := by decide +kernel
  rw [valueOf, h]
  rw [Int.cast_pow, Int.cast_ofNat]
  exact div_self (by positivity)

theorem test_witness_MulDivRoundOnce : isFinite fOne = true ∧ valueOf fOne ≠ 0 := by
  refine ⟨by decide, ?_⟩
  rw [valueOf_fOne]
  exact one_ne_zero

theorem test_witness_SqrtRoundsOnce :
    isFinite 0x7FEFFFFFFFFFFFFF = true ∧ signBit 0x7FEFFFFFFFFFFFFF = false ∧ isNaN 0x7FF8000000000000 = true := by
  decide

/-- A product that is zero, of factors of different sign. -/
theorem test_witness_ZeroSigns :
    isFinite 0x8000000000000001 = true ∧ isFinite 0x0000000000000001 = true ∧
      magBits (fmul 0 0x8000000000000001 0x0000000000000001) = 0 ∧ valueOf fOne ≠ 0 ∧
      magBits (fdiv 0 0x8000000000000000 fOne) = 0 := by
  refine ⟨by decide, by decide, by decide +kernel, by rw [valueOf_fOne]; exact one_ne_zero, by decide +kernel⟩

theorem test_witness_RealIdentities :
    isNaN 0x7FF0000000000000 = false ∧ isNaN 0x8000000000000000 = false ∧ (fOne : F64) ≠ 0x8000000000000000 := by decide

theorem test_witness_ConversionsExact : 2 ^ 53 - 1 < 2 ^ 53 := by decide

/-- A NaN; two finite data in order; a chain of three. -/
theorem test_witness_FltIsQuietLess :
    isNaN 0x7FF8000000000000 = true ∧ isFinite fOne = true ∧ flt fOne fTwo = true ∧ flt fTwo fPi = true := by
  decide +kernel

/-- Finite operands at both ends, decided: `TWO_PI`, the largest datum, and a sine below `2^-27`. -/
theorem test_witness_ReferenceTrigRoundsOnce :
    isFinite fTwoPi = true ∧ decided (cosFixed fTwoPi) = true ∧ isFinite 0x7FEFFFFFFFFFFFFF = true ∧
      decided (cosFixed 0x7FEFFFFFFFFFFFFF) = true ∧ decided (sinFixed 0x7FEFFFFFFFFFFFFF) = true ∧
      units 0x3E30000000000000 < 2 ^ 1047 := by
  decide +kernel

theorem test_witness_TwiddleAngleExact : 1 ≤ 1 ∧ 30 ≤ 30 ∧ tang 0 30 = 0x3E3921FB54442D18 := by decide +kernel

theorem test_witness_SqrtOfSquare : isFinite fOne = true ∧ 1 / 2 ^ 511 ≤ |valueOf fOne| ∧ |valueOf fOne| < 2 ^ 511 := by
  rw [valueOf_fOne]
  refine ⟨by decide, ?_, ?_⟩
  · rw [abs_one, div_le_one (by positivity)]
    exact one_le_pow₀ (by norm_num)
  · rw [abs_one]
    exact one_lt_pow₀ (by norm_num) (by norm_num)

theorem test_witness_TwiddleTable : Config.default.num = .reference ∧ 1 ≤ 30 ∧ 30 ≤ 30 := by decide

end Sys2Proof.Tests
end

/-! Proofs: the two views of a command (R15, R44), and what a step on a CMD write is. -/

namespace Sys2Proof

/-! ### Decoding (R90 to R93) -/

/-- A command word is its three fields (R90). -/
theorem word_eq_of_fields_eq {x y : Word} (hz : zeroField x = zeroField y) (ha : argField x = argField y)
    (ho : opcField x = opcField y) : x = y := by
  apply BitVec.eq_of_toNat_eq
  have hz := congrArg BitVec.toNat hz
  have ha := congrArg BitVec.toNat ha
  have ho := congrArg BitVec.toNat ho
  simp only [zeroField, argField, opcField, BitVec.extractLsb'_toNat, Nat.shiftRight_eq_div_pow] at hz ha ho
  omega

/-- The map of R91 for the commands without an operand answers a command with that opcode and no operand, well formed in
every configuration. -/
theorem decodeOpc_eq_ok {n : Nat} {i : Instr} (h : decodeOpc n = .ok i) :
    Laws.Encoding.opcode i = n ∧ Laws.Encoding.operand i = 0 ∧ (∀ c, i.wellFormed c = true) ∧
      Laws.Encoding.Statement i := by
  unfold decodeOpc at h
  split at h <;> cases h
  · exact ⟨rfl, rfl, fun _ => rfl, Laws.Encoding.rewind⟩
  · exact ⟨rfl, rfl, fun _ => rfl, Laws.Encoding.extract⟩
  · exact ⟨rfl, rfl, fun _ => rfl, Laws.Encoding.window⟩
  · exact ⟨rfl, rfl, fun _ => rfl, Laws.Encoding.bitrev⟩
  · exact ⟨rfl, rfl, fun _ => rfl, Laws.Encoding.fft⟩
  · exact ⟨rfl, rfl, fun _ => rfl, Laws.Encoding.peak⟩
  · exact ⟨rfl, rfl, fun _ => rfl, Laws.Encoding.block⟩
  · exact ⟨rfl, rfl, fun _ => rfl, Laws.Encoding.run⟩

/-- A word with the fields of a command's encoding is that encoding. -/
theorem encode_eq_of_fields {i : Instr} {x : Word} (hs : Laws.Encoding.Statement i) (hz : zeroField x = 0)
    (ha : (argField x).toNat = Laws.Encoding.operand i) (ho : (opcField x).toNat = Laws.Encoding.opcode i) :
    encode i = x := by
  obtain ⟨so, sa, sz⟩ := hs
  exact word_eq_of_fields_eq (sz.trans hz.symm) (BitVec.eq_of_toNat_eq (sa.trans ha.symm))
    (BitVec.eq_of_toNat_eq (so.trans ho.symm))

/-- R91, R93: a word that decodes is the encoding of its command, which is well formed. -/
theorem decode_eq_ok {c : Config} {x : Word} {i : Instr} (h : decode c x = .ok i) :
    encode i = x ∧ i.wellFormed c = true := by
  unfold decode at h
  split at h
  · cases h
  · rename_i hz
    have hz : zeroField x = 0 := not_not.1 hz
    split at h
    · rename_i ho
      split at h <;> cases h
      rename_i hp
      exact ⟨encode_eq_of_fields (Laws.Encoding.pass _) hz rfl (congrArg BitVec.toNat ho),
        by simp [Instr.wellFormed, hp]⟩
    · split at h
      · cases h
      · rename_i ha
        have ha : argField x = 0 := not_not.1 ha
        obtain ⟨ho, ha', hw, hs⟩ := decodeOpc_eq_ok h
        exact ⟨encode_eq_of_fields hs hz (by rw [ha, ha']; rfl) ho.symm, hw c⟩

end Sys2Proof

namespace Sys2Proof.Machine

/-! ### `LGN` (R8, R128) -/

/-- R128 on a power of two: the count ends at its exponent. -/
theorem lgFrom_two_pow {fuel k L : Nat} (hL : L ≤ k) (hf : k ≤ L + fuel) : lgFrom fuel (2 ^ k) L = k := by
  induction fuel generalizing L with
  | zero => exact Nat.le_antisymm hL hf
  | succ fuel ih =>
    have hk : 2 ^ k ≤ 2 ^ L ↔ k ≤ L := Nat.pow_le_pow_iff_right (by omega)
    simp only [lgFrom, hk]
    split
    · omega
    · exact ih (by omega) (by omega)

/-- R8, R10: `BLOCK_SIZE = 2^LGN`. -/
theorem two_pow_lgn (c : Config) : 2 ^ c.lgn = c.blockSize := by
  have h := c.legal
  simp only [configLegal, Bool.and_eq_true, List.any_eq_true, List.mem_range, beq_iff_eq] at h
  obtain ⟨⟨k, -, hN⟩, -⟩ := h
  have hk : c.lgn = k + 1 := by
    rw [Config.lgn, lg, hN]
    exact lgFrom_two_pow (Nat.zero_le _) (by have := Nat.lt_two_pow_self (n := k + 1); omega)
  rw [hk, hN]

theorem lgn_pos (c : Config) : 0 < c.lgn :=
  Nat.pos_of_ne_zero fun h0 => by
    have h := two_pow_lgn c
    have hb := Config.bounds c
    rw [h0] at h
    omega

/-- R128: a pass number is at most 30, so it fits SEQ's five bits (R43). -/
theorem lgn_le (c : Config) : c.lgn ≤ 30 :=
  (Nat.pow_le_pow_iff_right (by omega)).1 ((two_pow_lgn c).trans_le (Config.bounds c).2.1)

/-! ### A step while idle -/

/-- While idle a step performs the host's next operation (R77). -/
theorem step_of_idle {s : State} {op : HostOp} {rest : List HostOp} (hb : s.busy = false) (hh : s.host = op :: rest) :
    step s = hostPerform op { s with host := rest } := by
  have hd : dropOp s = { s with host := rest } := by simp [dropOp, hh]
  simp [step, machineStep, hh, hb, hd]

/-- R214, last case: with FAULT = 0 a word that decodes is executed. -/
theorem cmdWrite_of_decode {s : State} {x : Word} {i : Instr} (hf : s.fault = false) (hd : decode s.cfg x = .ok i) :
    cmdWrite x s = exec i s := by
  simp [cmdWrite, hf, hd]

/-- Settles O5: in whatever form it comes the write is `cmdWrite`, and an accepted word is executed. -/
theorem stepRunsDecodedCommand : Obligations.StepRunsDecodedCommand := by
  intro s op x rest i hb hf hh hw hd
  calc step s = hostPerform op { s with host := rest } := step_of_idle hb hh
    _ = cmdWrite x { s with host := rest } := hostPerform_registerWrite hw _
    _ = exec i { s with host := rest } := cmdWrite_of_decode hf hd

/-! ### Runs -/

/-- Some number of steps leads from one state to the other. -/
abbrev Reaches : State → State → Prop := Relation.ReflTransGen fun s t => step s = .next t

theorem Reaches.head {s t u : State} (h : Reaches t u) (hs : step s = .next t) : Reaches s u :=
  Relation.ReflTransGen.head hs h

/-- What is reached, a run of some length reaches. -/
theorem Reaches.run {s t : State} (h : Reaches s t) : ∃ k, core.run k s = .next t := by
  induction h using Relation.ReflTransGen.head_induction_on with
  | refl => exact ⟨0, rfl⟩
  | head hs _ ih =>
    obtain ⟨k, hk⟩ := ih
    exact ⟨k + 1, by simpa only [Host.Core.run, show core.step _ = _ from hs] using hk⟩

/-! ### A state in execution -/

/-- `s` in the middle of command word `x`, at a stage, pass number and indices, with no host operation pending. -/
def executing (x : Word) (st : Stage) (p i j : Nat) (s : State) : State :=
  { s with
    busy := true
    seq := { cmd := some x, stage := st, s := BitVec.ofNat 5 p, i := BitVec.ofNat 31 i, j := BitVec.ofNat 31 j }
    host := [] }

/-- `s` between commands, with no host operation pending. -/
structure AtRest (s : State) : Prop where
  busy : s.busy = false
  seq : s.seq = Seq.idle
  host : s.host = []

theorem AtRest.of_same {s t : State} (h : AtRest s) (hq : SameSequencer s t) (hh : SameHostSide s t) : AtRest t :=
  ⟨hq.busy.trans h.busy, hq.seq.trans h.seq, hh.host.trans h.host⟩

theorem SameControl.atRest {s t : State} (hc : SameControl s t) (h : AtRest s) : AtRest t :=
  h.of_same hc.sequencer hc.hostSide

section
variable (x : Word) (st : Stage) (p i j : Nat) (s : State)

theorem enterStage_executing (st' : Stage) (q : Nat) :
    enterStage st' q (executing x st p i j s) = executing x st' q 0 0 s := rfl

/-- A finished command leaves the state as its operations made it. -/
theorem finishCmd_executing (h : AtRest s) : finishCmd (executing x st p i j s) = s := by
  obtain ⟨hb, hq, hh⟩ := h
  cases s
  simp_all [finishCmd, executing]

/-- The sequencer executes the command that its word decodes to. -/
theorem seqInstr_executing {c : Instr} (hd : decode s.cfg x = .ok c) :
    seqInstr (executing x st p i j s) = some c := by
  simp [seqInstr, executing, hd]

theorem acceptCmd_eq_executing (c : Instr) (h : s.host = []) :
    acceptCmd x c s = executing x (firstStage c) (firstPass c) 0 0 s := by
  cases s
  subst h
  rfl

/-! The micro-operations do not look at the sequencer. -/

theorem rewindOp_executing : rewindOp (executing x st p i j s) = executing x st p i j (rewindOp s) := rfl

theorem extractOp_executing : extractOp (executing x st p i j s) = executing x st p i j (extractOp s) := by
  have hf : blockFits (executing x st p i j s) = blockFits s := rfl
  have he : (executing x st p i j s).exh = s.exh := rfl
  unfold extractOp
  rw [hf, he]
  split
  · rfl
  · split <;> rfl

theorem swapOp_executing (k : Nat) : swapOp k (executing x st p i j s) = executing x st p i j (swapOp k s) := by
  have hp : swapPartner (executing x st p i j s) k = swapPartner s k := rfl
  unfold swapOp
  rw [hp]
  split <;> rfl

theorem microTurn_executing (q a b : Nat) :
    microTurn q a b (executing x st p i j s) = executing x st p i j (microTurn q a b s) := by
  unfold microTurn
  split
  · split <;> rfl
  · rfl

end

theorem scanStep_executing (k : Nat) (x : Word) (st : Stage) (p i j : Nat) (s : State) :
    scanStep k (executing x st p i j s) = executing x st p i j (scanStep k s) := by
  have hm : flt (executing x st p i j s).bm
      (cmag (executing x st p i j s).draws (bufRead (executing x st p i j s).buf k)) =
        flt s.bm (cmag s.draws (bufRead s.buf k)) := rfl
  unfold scanStep
  rw [hm]
  split <;> rfl

/-! ### The turns that micro-steps make

A micro-step of ST_PASS and ST_PEAK does at index 0 what the command's pseudocode does before its loop. -/

/-- Where turn 0 prepares the state first, the loop is the plain loop from the prepared state. -/
theorem loopUp_prepared {f g : Nat → State → State} {prepare : State → State} (h0 : ∀ s, f 0 s = g 0 (prepare s))
    (hs : ∀ k s, k ≠ 0 → f k s = g k s) (n : Nat) (s : State) : loopUp f (n + 1) s = loopUp g (n + 1) (prepare s) := by
  induction n with
  | zero => exact h0 s
  | succ n ih => rw [loopUp_succ, ih, hs _ _ (Nat.succ_ne_zero n), loopUp_succ g (n + 1)]

theorem microTurn_control (p i j : Nat) (s : State) : SameControl s (microTurn p i j s) := by
  unfold microTurn
  refine .trans ?_ (bflyTurn_control p i j _)
  split
  · refine .trans ?_ (startGroup_control _)
    split
    · exact twiddleOp_control p s
    · exact .refl s
  · exact .refl s

/-- All the micro-steps of group number `g` of pass `p`. -/
def groupTurns (p g : Nat) (s : State) : State := loopUp (microTurn p (groupStart p g)) (halfLength p) s

theorem groupTurns_control (p g : Nat) (s : State) : SameControl s (groupTurns p g s) :=
  loopUp_control _ (microTurn_control p _) _ s

/-- The micro-steps of a group are the group's operation, after TWIDDLE in the first one. -/
theorem groupTurns_eq (p g : Nat) (s : State) :
    groupTurns p g s = groupOp p (groupStart p g) (if g = 0 then twiddleOp p s else s) := by
  have hg : groupStart p g = 0 ↔ g = 0 := by simp [groupStart, stepLength]
  obtain ⟨m, hm⟩ : ∃ m, halfLength p = m + 1 :=
    Nat.exists_eq_succ_of_ne_zero (by simp [halfLength])
  unfold groupTurns groupOp
  rw [hm]
  exact loopUp_prepared (prepare := fun s => startGroup (if g = 0 then twiddleOp p s else s))
    (fun s => by simp [microTurn, hg]) (fun k s hk => by simp [microTurn, hk]) m s

/-- The micro-steps of the groups are the pass (R168). -/
theorem loopUp_groupTurns {p : Nat} {s : State} (h : 0 < groupCount s p) :
    loopUp (groupTurns p) (groupCount s p) s = passOp p s := by
  obtain ⟨m, hm⟩ := Nat.exists_eq_succ_of_ne_zero h.ne'
  unfold passOp
  rw [hm]
  exact loopUp_prepared (fun s => groupTurns_eq p 0 s) (fun g s hg => by rw [groupTurns_eq, if_neg hg]) m s

/-- MAG and CMPSEL at index `k`: the start of the scan at 0. -/
def scanTurn (k : Nat) (s : State) : State := if k = 0 then scanStart s else scanStep k s

theorem scanTurn_control (k : Nat) (s : State) : SameControl s (scanTurn k s) := by
  unfold scanTurn
  split
  · exact scanStart_control s
  · exact scanStep_control k s

theorem scanTurn_executing (k : Nat) (x : Word) (st : Stage) (p i j : Nat) (s : State) :
    scanTurn k (executing x st p i j s) = executing x st p i j (scanTurn k s) := by
  unfold scanTurn
  split
  · rfl
  · exact scanStep_executing k x st p i j s

theorem loopUp_scanTurn_succ (n : Nat) (s : State) :
    loopUp scanTurn (n + 1) s = loopUp (fun k => scanStep (k + 1)) n (scanStart s) := by
  induction n with
  | zero => rfl
  | succ n ih => rw [loopUp_succ, ih]; rfl

/-- The micro-steps of ST_PEAK are the scan (R193). -/
theorem loopUp_scanTurn (s : State) : loopUp scanTurn s.n s = scanOp s := by
  have hb := Config.bounds s.cfg
  obtain ⟨m, hm⟩ : ∃ m, s.n = m + 1 := Nat.exists_eq_succ_of_ne_zero (by simp only [State.n]; omega)
  unfold scanOp
  rw [hm, loopUp_scanTurn_succ]
  rfl

/-! ### Stages

Each stage is a loop: at every index but the last it stays, at the last it leaves. What follows a
stage does not read the indices, so the lemmas write 0 for those it leaves with. -/

/-- A loop whose every turn leads from one place to the next, and whose last turn leads out, leads out with the whole
loop done. -/
theorem reaches_loopUp {place : Nat → State → State} {leave : State → State} {turn : Nat → State → State}
    (hc : ∀ k t, SameControl t (turn k t)) {n : Nat} (hn : 0 < n) (s : State)
    (hs : ∀ k t, k < n → SameControl s t →
      Reaches (place k t) (if k + 1 < n then place (k + 1) (turn k t) else leave (turn k t))) :
    Reaches (place 0 s) (leave (loopUp turn n s)) := by
  obtain ⟨m, rfl⟩ := Nat.exists_eq_succ_of_ne_zero hn.ne'
  obtain ⟨hm, hr⟩ := loopUp_induction (P := fun k t => SameControl s t ∧ Reaches (place 0 s) (place k t)) turn m s
    ⟨.refl s, .refl⟩ fun k t hk ⟨ht, hr⟩ => by
      have h := hs k t (by omega) ht
      rw [if_pos (by omega)] at h
      exact ⟨ht.trans (hc k t), hr.trans h⟩
  have h := hs m _ (Nat.lt_succ_self m) hm
  rw [if_neg (Nat.lt_irrefl _)] at h
  exact hr.trans h

/-- An index of BUF is one that SEQ can hold. -/
theorem toNat_index {k : Nat} {s : State} (h : k < s.n) : (BitVec.ofNat 31 k).toNat = k := by
  have hb := Config.bounds s.cfg
  simp only [State.n] at h
  rw [BitVec.toNat_ofNat, Nat.mod_eq_of_lt (by omega)]

theorem n_pos (s : State) : 0 < s.n := by
  have hb := Config.bounds s.cfg
  simp only [State.n]
  omega

/-- ST_WINDOW does WINDOW's loop (R152). -/
theorem reaches_windowStage (x : Word) {s : State} (h : s.cur.toNat + s.n ≤ 2 ^ 32) :
    Reaches (executing x .window 1 0 0 s) (afterWindow (executing x .window 1 0 0 (loopUp winElem s.n s))) := by
  refine reaches_loopUp (place := fun k => executing x .window 1 k 0)
    (leave := fun t => afterWindow (executing x .window 1 0 0 t)) winElem_control (n_pos s) s
    fun k t hk ht => .single ?_
  have hi : sampleIndex (executing x .window 1 k 0 t) k < 2 ^ 32 := by
    show t.cur.toNat + k < 2 ^ 32
    rw [ht.extractor.cur]
    omega
  have hn : (executing x .window 1 k 0 t).n = s.n := ht.n_eq
  calc step (executing x .window 1 k 0 t) = microWindow (BitVec.ofNat 31 k).toNat (executing x .window 1 k 0 t) := rfl
    _ = _ := by
      rw [toNat_index hk, microWindow, if_pos hi, hn]
      split <;> rfl

/-- ST_BITREV does BITREV (R164). -/
theorem reaches_bitrevStage (x : Word) (s : State) :
    Reaches (executing x .bitrev 1 0 0 s) (afterBitrev (executing x .bitrev 1 0 0 (bitrevOp s))) := by
  refine reaches_loopUp (place := fun k => executing x .bitrev 1 k 0)
    (leave := fun t => afterBitrev (executing x .bitrev 1 0 0 t)) swapOp_control (n_pos s) s fun k t hk ht => .single ?_
  have hn : (executing x .bitrev 1 k 0 t).n = s.n := ht.n_eq
  calc step (executing x .bitrev 1 k 0 t) =
      .next (microBitrev (BitVec.ofNat 31 k).toNat (executing x .bitrev 1 k 0 t)) := rfl
    _ = _ := by
      rw [toNat_index hk, microBitrev, hn, swapOp_executing]
      split <;> rfl

/-- ST_PEAK does PEAK (R193). -/
theorem reaches_peakStage (x : Word) (s : State) :
    Reaches (executing x .peak 1 0 0 s) (afterPeak (executing x .peak 1 0 0 (peakOp s))) := by
  rw [peakOp, ← loopUp_scanTurn]
  refine reaches_loopUp (place := fun k => executing x .peak 1 k 0)
    (leave := fun t => afterPeak (executing x .peak 1 0 0 (peakCommit t))) scanTurn_control (n_pos s) s
    fun k t hk ht => .single ?_
  have hn : (executing x .peak 1 k 0 t).n = s.n := ht.n_eq
  calc step (executing x .peak 1 k 0 t) = .next (microPeak (BitVec.ofNat 31 k).toNat (executing x .peak 1 k 0 t)) := rfl
    _ = _ := by
      rw [toNat_index hk, microPeak, hn, ← scanTurn, scanTurn_executing]
      split <;> rfl

/-! ### ST_PASS (R168) -/

/-- The groups of a pass fill BUF. -/
theorem groupStart_groupCount {p : Nat} {s : State} (hp : p ≤ s.cfg.lgn) : groupStart p (groupCount s p) = s.n := by
  refine Nat.div_mul_cancel ?_
  rw [State.n, ← two_pow_lgn]
  exact Nat.pow_dvd_pow 2 hp

theorem groupStart_succ (p g : Nat) : groupStart p (g + 1) = groupStart p g + stepLength p := Nat.succ_mul g _

theorem groupStart_lt {p a b : Nat} : groupStart p a < groupStart p b ↔ a < b :=
  Nat.mul_lt_mul_right (Nat.two_pow_pos p)

theorem halfLength_pos (p : Nat) : 0 < halfLength p := Nat.two_pow_pos _

theorem halfLength_le (p : Nat) : halfLength p ≤ stepLength p := Nat.pow_le_pow_right (by omega) (Nat.sub_le p 1)

/-- The micro-steps of one group lead to the next group if there is one, else out of the pass. -/
theorem reaches_group (x : Word) {p i : Nat} {s : State} (hp : p ≤ s.cfg.lgn) (hi : i + stepLength p ≤ s.n) :
    Reaches (executing x .pass p i 0 s)
      (if i + stepLength p < s.n then
        executing x .pass p (i + stepLength p) 0 (loopUp (microTurn p i) (halfLength p) s)
      else afterPass p (executing x .pass p 0 0 (loopUp (microTurn p i) (halfLength p) s))) := by
  refine reaches_loopUp (place := fun j => executing x .pass p i j)
    (leave := fun t => if i + stepLength p < s.n then executing x .pass p (i + stepLength p) 0 t
      else afterPass p (executing x .pass p 0 0 t))
    (microTurn_control p i) (halfLength_pos p) s fun j t hj ht => .single ?_
  have hh := halfLength_le p
  have hl := lgn_le s.cfg
  have hs : (BitVec.ofNat 5 p).toNat = p := by rw [BitVec.toNat_ofNat, Nat.mod_eq_of_lt (by omega)]
  have hn : (executing x .pass p i j t).n = s.n := ht.n_eq
  calc step (executing x .pass p i j t) = .next (microPass (BitVec.ofNat 5 p).toNat (BitVec.ofNat 31 i).toNat
        (BitVec.ofNat 31 j).toNat (executing x .pass p i j t)) := rfl
    _ = _ := by
      rw [hs, toNat_index (k := i) (s := s) (by omega), toNat_index (k := j) (s := s) (by omega), microPass, hn,
        microTurn_executing]
      split
      · rfl
      · split <;> rfl

/-- ST_PASS at pass number `p` does PASS `p`. -/
theorem reaches_passStage (x : Word) {p : Nat} {s : State} (hp : p ≤ s.cfg.lgn) :
    Reaches (executing x .pass p 0 0 s) (afterPass p (executing x .pass p 0 0 (passOp p s))) := by
  have hf := groupStart_groupCount hp
  have h0 : 0 < groupCount s p := groupStart_lt (p := p).1 (by rw [hf, groupStart, Nat.zero_mul]; exact n_pos s)
  rw [← loopUp_groupTurns h0, show executing x .pass p 0 0 s = executing x .pass p (groupStart p 0) 0 s by
    rw [groupStart, Nat.zero_mul]]
  refine reaches_loopUp (place := fun g => executing x .pass p (groupStart p g) 0)
    (leave := fun t => afterPass p (executing x .pass p 0 0 t)) (groupTurns_control p) h0 s fun g t hg ht => ?_
  have hc : t.cfg.lgn = s.cfg.lgn := congrArg Config.lgn ht.hostSide.cfg
  have hle : groupStart p g + stepLength p ≤ s.n := by
    rw [← groupStart_succ, ← hf]
    exact Nat.mul_le_mul_right _ hg
  have hlt : groupStart p (g + 1) < s.n ↔ g + 1 < groupCount s p := by rw [← hf, groupStart_lt]
  have h := reaches_group x (hp.trans_eq hc.symm) (hle.trans_eq ht.n_eq.symm)
  simpa only [ht.n_eq, ← groupStart_succ, hlt, groupTurns] using h

/-! ### What follows a stage (R44, table) -/

/-- BLOCK and RUN go through every stage. -/
def runsPipeline (c : Instr) : Prop := c = .block ∨ c = .run

/-- FFT, BLOCK and RUN go through ST_BITREV and every pass. -/
def runsFft (c : Instr) : Prop := c = .fft ∨ runsPipeline c

section
variable {x : Word} {s : State} {c : Instr} (hd : decode s.cfg x = .ok c) (st : Stage) (p i j : Nat)
include hd

theorem isPipeline_executing (hc : runsPipeline c) : isPipeline (executing x st p i j s) = true := by
  obtain rfl | rfl := hc <;> simp [isPipeline, seqInstr_executing x st p i j s hd]

theorem isFft_executing (hc : runsFft c) :
    (isPipeline (executing x st p i j s) || seqInstr (executing x st p i j s) == some .fft) = true := by
  obtain rfl | hc := hc
  · simp [seqInstr_executing x st p i j s hd]
  · simp [isPipeline_executing hd st p i j hc]

theorem afterWindow_goes_on (hc : runsPipeline c) :
    afterWindow (executing x st p i j s) = executing x .bitrev 1 0 0 s :=
  if_pos (isPipeline_executing hd st p i j hc)

theorem afterBitrev_goes_on (hc : runsFft c) :
    afterBitrev (executing x st p i j s) = executing x .pass 1 0 0 s :=
  if_pos (isFft_executing hd st p i j hc)

theorem afterPass_goes_on (hc : runsFft c) {q : Nat} (hq : q < s.cfg.lgn) :
    afterPass q (executing x st p i j s) = executing x .pass (q + 1) 0 0 s := by
  have hq : q < (executing x st p i j s).cfg.lgn := hq
  rw [afterPass, if_pos (isFft_executing hd st p i j hc), if_pos hq, enterStage_executing]

theorem afterPass_last (hc : runsPipeline c) {q : Nat} (hq : q = s.cfg.lgn) :
    afterPass q (executing x st p i j s) = executing x .peak 1 0 0 s := by
  have hq : ¬q < (executing x st p i j s).cfg.lgn := hq.not_lt
  rw [afterPass, if_pos (isFft_executing hd st p i j (.inr hc)), if_neg hq,
    if_pos (isPipeline_executing hd st p i j hc), enterStage_executing]

end

/-! ### Sequences of stages -/

section
variable {x : Word} {s : State} {c : Instr} (hd : decode s.cfg x = .ok c)
include hd

/-- What a control-keeping operation leaves decodes as before. -/
theorem SameControl.decode_eq {t : State} (h : SameControl s t) : decode t.cfg x = .ok c := by
  rw [h.hostSide.cfg]
  exact hd

/-- All the passes of the transform (R169). -/
theorem reaches_passes (hc : runsFft c) :
    Reaches (executing x .pass 1 0 0 s)
      (afterPass s.cfg.lgn
        (executing x .pass s.cfg.lgn 0 0 (loopUp (fun k => passOp (k + 1)) s.cfg.lgn s))) := by
  refine reaches_loopUp (place := fun k => executing x .pass (k + 1) 0 0)
    (leave := fun t => afterPass s.cfg.lgn (executing x .pass s.cfg.lgn 0 0 t)) (fun k => passOp_control (k + 1))
    (lgn_pos s.cfg) s fun k t hk ht => ?_
  have hl : t.cfg.lgn = s.cfg.lgn := congrArg Config.lgn ht.hostSide.cfg
  have hp : SameControl s (passOp (k + 1) t) := ht.trans (passOp_control (k + 1) t)
  have hpl : (passOp (k + 1) t).cfg.lgn = s.cfg.lgn := congrArg Config.lgn hp.hostSide.cfg
  have hr := reaches_passStage x (p := k + 1) (s := t) (by omega)
  split
  · rename_i hlt
    rwa [afterPass_goes_on (hp.decode_eq hd) _ _ _ _ hc (hlt.trans_eq hpl.symm)] at hr
  · have hlast : s.cfg.lgn = k + 1 := by omega
    rwa [hlast]

/-- The transform (R169), up to what follows its last pass. -/
theorem reaches_fft (hc : runsFft c) :
    Reaches (executing x .bitrev 1 0 0 s) (afterPass s.cfg.lgn (executing x .pass s.cfg.lgn 0 0 (fftOp s))) := by
  have hb := bitrevOp_control s
  have hl : (bitrevOp s).cfg.lgn = s.cfg.lgn := congrArg Config.lgn hb.hostSide.cfg
  have hr := reaches_passes (hb.decode_eq hd) hc
  rw [hl] at hr
  refine (reaches_bitrevStage x s).trans ?_
  rwa [afterBitrev_goes_on (hb.decode_eq hd) _ _ _ _ hc]

/-- A block's pipeline (R194), up to what follows ST_PEAK. -/
theorem reaches_pipeline (hc : runsPipeline c) (hb : s.cur.toNat + s.n ≤ 2 ^ 32) :
    Reaches (executing x .window 1 0 0 s)
      (afterPeak (executing x .peak 1 0 0 (peakOp (fftOp (loopUp winElem s.n s))))) := by
  have hw := loopUp_control winElem winElem_control s.n s
  have hf := fftOp_control (loopUp winElem s.n s)
  have hr := reaches_fft (hw.decode_eq hd) (.inr hc)
  rw [afterPass_last ((hw.trans hf).decode_eq hd) _ _ _ _ hc (congrArg Config.lgn hf.hostSide.cfg).symm] at hr
  refine (reaches_windowStage x hb).trans ?_
  rw [afterWindow_goes_on (hw.decode_eq hd) _ _ _ _ hc]
  exact hr.trans (reaches_peakStage x _)

end

/-! ### The two views of a command -/

/-- The command completes as an atomic transition, and its micro-steps reach the same state. -/
def ViewsAgree (x : Word) (c : Instr) (s : State) : Prop :=
  ∃ t, exec c s = .next t ∧ Reaches (acceptCmd x c s) t

/-- R27: a block that EXTRACT leaves current lies inside the Waveform if the block before it did. -/
theorem extractOp_blockInside {s : State} (hb : s.bv = true → s.cur.toNat + s.n ≤ s.wlen.toNat)
    (h : (extractOp s).bv = true) : (extractOp s).cur.toNat + (extractOp s).n ≤ (extractOp s).wlen.toNat := by
  obtain ⟨-, hs⟩ | ⟨-, hfit, hs⟩ | ⟨-, -, hs⟩ := extractOp_cases s
  · rw [hs] at h ⊢
    exact hb h
  · rw [hs]
    exact hfit
  · rw [hs] at h
    cases h

theorem extractOp_atRest {s : State} (h : AtRest s) : AtRest (extractOp s) :=
  ⟨by simpa using h.busy, by simpa using h.seq, by simpa using h.host⟩

section
variable {x : Word} {s : State} (hr : AtRest s)
include hr

theorem viewsAgree_rewind (hd : decode s.cfg x = .ok .rewind) : ViewsAgree x .rewind s := by
  refine ⟨rewindOp s, rfl, .single ?_⟩
  have hf : AtRest (rewindOp s) := ⟨hr.busy, hr.seq, hr.host⟩
  rw [acceptCmd_eq_executing x s _ hr.host]
  calc step (executing x .extract 1 0 0 s) = .next (microExtract (executing x .extract 1 0 0 s)) := rfl
    _ = .next (rewindOp s) := by
      rw [microExtract, seqInstr_executing x _ _ _ _ s hd, rewindOp_executing]
      exact congrArg _ (finishCmd_executing x _ _ _ _ _ hf)

theorem viewsAgree_extract (hd : decode s.cfg x = .ok .extract) : ViewsAgree x .extract s := by
  refine ⟨extractOp s, rfl, .single ?_⟩
  rw [acceptCmd_eq_executing x s _ hr.host]
  calc step (executing x .extract 1 0 0 s) = .next (microExtract (executing x .extract 1 0 0 s)) := rfl
    _ = .next (extractOp s) := by
      rw [microExtract, seqInstr_executing x _ _ _ _ s hd, extractOp_executing]
      exact congrArg _ (finishCmd_executing x _ _ _ _ _ (extractOp_atRest hr))

theorem viewsAgree_window (hd : decode s.cfg x = .ok .window) (hbv : s.bv = true)
    (hb : s.cur.toNat + s.n ≤ s.wlen.toNat) : ViewsAgree x .window s := by
  have hw := loopUp_control winElem winElem_control s.n s
  refine ⟨loopUp winElem s.n s, ?_, ?_⟩
  · calc exec .window s = windowOp s := if_pos hbv
      _ = .next (loopUp winElem s.n s) := windowOp_runs s hb
  · have h := reaches_windowStage x (s := s) (hb.trans s.wlen.isLt.le)
    have hf : afterWindow (executing x .window 1 0 0 (loopUp winElem s.n s)) = loopUp winElem s.n s := by
      rw [afterWindow, isPipeline, seqInstr_executing x _ _ _ _ _ (hw.decode_eq hd)]
      exact finishCmd_executing x _ _ _ _ _ (hw.atRest hr)
    rw [acceptCmd_eq_executing x s _ hr.host]
    rwa [hf] at h

theorem viewsAgree_bitrev (hd : decode s.cfg x = .ok .bitrev) : ViewsAgree x .bitrev s := by
  have hb := bitrevOp_control s
  have h := reaches_bitrevStage x s
  have hf : afterBitrev (executing x .bitrev 1 0 0 (bitrevOp s)) = bitrevOp s := by
    rw [afterBitrev, isPipeline, seqInstr_executing x _ _ _ _ _ (hb.decode_eq hd)]
    exact finishCmd_executing x _ _ _ _ _ (hb.atRest hr)
  refine ⟨bitrevOp s, rfl, ?_⟩
  rw [acceptCmd_eq_executing x s _ hr.host]
  rwa [hf] at h

theorem viewsAgree_pass {p : BitVec 8} (hd : decode s.cfg x = .ok (.pass p)) : ViewsAgree x (.pass p) s := by
  obtain ⟨h1, hp⟩ : 1 ≤ p.toNat ∧ p.toNat ≤ s.cfg.lgn := by simpa [Instr.wellFormed] using (decode_eq_ok hd).2
  have hc := passOp_control p.toNat s
  have h := reaches_passStage x hp
  have hf : afterPass p.toNat (executing x .pass p.toNat 0 0 (passOp p.toNat s)) = passOp p.toNat s := by
    rw [afterPass, isPipeline, seqInstr_executing x _ _ _ _ _ (hc.decode_eq hd)]
    exact finishCmd_executing x _ _ _ _ _ (hc.atRest hr)
  refine ⟨passOp p.toNat s, if_pos ⟨h1, hp⟩, ?_⟩
  rw [acceptCmd_eq_executing x s _ hr.host]
  rwa [hf] at h

theorem viewsAgree_fft (hd : decode s.cfg x = .ok .fft) : ViewsAgree x .fft s := by
  have hc := fftOp_control s
  have hl : ¬s.cfg.lgn < (fftOp s).cfg.lgn := (congrArg Config.lgn hc.hostSide.cfg).not_gt
  have h := reaches_fft hd (.inl rfl)
  have hf : afterPass s.cfg.lgn (executing x .pass s.cfg.lgn 0 0 (fftOp s)) = fftOp s := by
    rw [afterPass, isPipeline, seqInstr_executing x _ _ _ _ _ (hc.decode_eq hd)]
    exact (if_neg hl).trans (finishCmd_executing x _ _ _ _ _ (hc.atRest hr))
  refine ⟨fftOp s, rfl, ?_⟩
  rw [acceptCmd_eq_executing x s _ hr.host]
  rwa [hf] at h

/-- After ST_PEAK every command but RUN ends (R44). -/
theorem afterPeak_executing_peakOp {c : Instr} (hd : decode s.cfg x = .ok c) (hc : c ≠ .run) (st : Stage)
    (p i j : Nat) : afterPeak (executing x st p i j (peakOp s)) = peakOp s := by
  obtain ⟨-, -, -, hq, hh⟩ := peakOp_keeps s
  have hd' : decode (peakOp s).cfg x = .ok c := by rw [hh.cfg]; exact hd
  rw [afterPeak, seqInstr_executing x _ _ _ _ _ hd', if_neg (by simpa using hc)]
  exact finishCmd_executing x _ _ _ _ _ (hr.of_same hq hh)

theorem viewsAgree_peak (hd : decode s.cfg x = .ok .peak) : ViewsAgree x .peak s := by
  have h := reaches_peakStage x s
  rw [afterPeak_executing_peakOp hr hd (by decide)] at h
  refine ⟨peakOp s, rfl, ?_⟩
  rwa [acceptCmd_eq_executing x s _ hr.host]

/-- ST_EXTRACT of BLOCK: with a block it goes on to ST_WINDOW, else the command ends. -/
theorem step_executing_block (hd : decode s.cfg x = .ok .block) :
    step (executing x .extract 1 0 0 s) =
      .next (if (extractOp s).bv then executing x .window 1 0 0 (extractOp s) else extractOp s) := by
  calc step (executing x .extract 1 0 0 s) = .next (microExtract (executing x .extract 1 0 0 s)) := rfl
    _ = _ := by
      rw [microExtract, seqInstr_executing x _ _ _ _ s hd, extractOp_executing,
        ← finishCmd_executing x .extract 1 0 0 _ (extractOp_atRest hr)]
      rfl

/-- ST_EXTRACT of RUN: where the loop continues it goes on to ST_WINDOW, else the command ends. -/
theorem step_executing_run (hd : decode s.cfg x = .ok .run) :
    step (executing x .extract 1 0 0 s) =
      .next (if runContinues (extractOp s) then executing x .window 1 0 0 (extractOp s) else extractOp s) := by
  calc step (executing x .extract 1 0 0 s) = .next (microExtract (executing x .extract 1 0 0 s)) := rfl
    _ = _ := by
      rw [microExtract, seqInstr_executing x _ _ _ _ s hd, extractOp_executing,
        ← finishCmd_executing x .extract 1 0 0 _ (extractOp_atRest hr)]
      rfl

theorem viewsAgree_block (hd : decode s.cfg x = .ok .block)
    (hb : s.bv = true → s.cur.toNat + s.n ≤ s.wlen.toNat) : ViewsAgree x .block s := by
  have hd' : decode (extractOp s).cfg x = .ok .block := by simpa using hd
  have hs := step_executing_block hr hd
  rw [ViewsAgree, acceptCmd_eq_executing x s _ hr.host]
  by_cases hbv : (extractOp s).bv = true
  · have hin := (extractOp_blockInside hb hbv).trans (extractOp s).wlen.isLt.le
    have hw := loopUp_control winElem winElem_control (extractOp s).n (extractOp s)
    have hf := hw.trans (fftOp_control _)
    have h := reaches_pipeline hd' (.inl rfl) hin
    rw [afterPeak_executing_peakOp (hf.atRest (extractOp_atRest hr)) (hf.decode_eq hd') (by decide)] at h
    rw [if_pos hbv] at hs
    exact ⟨_, (if_pos hbv).trans (pipelineOp_eq_next.2 ⟨hin, rfl⟩), h.head hs⟩
  · rw [if_neg hbv] at hs
    exact ⟨_, if_neg hbv, .single hs⟩

end

/-- RUN's loop and its micro-steps, by induction on fuel that is above `WLEN - LEFT` (R196). -/
theorem reaches_runLoop {x : Word} (fuel : Nat) {s : State} (hr : AtRest s) (hd : decode s.cfg x = .ok .run)
    (hfuel : s.wlen.toNat < fuel + s.left.toNat) (hpos : 0 < fuel) :
    ∃ t, runLoop fuel s = .next t ∧ Reaches (executing x .extract 1 0 0 s) t := by
  induction fuel generalizing s with
  | zero => omega
  | succ fuel ih =>
    have hs := step_executing_run hr hd
    cases hc : runContinues (extractOp s) with
    | false =>
      rw [hc] at hs
      exact ⟨_, runLoop_stops hc fuel, .single hs⟩
    | true =>
      rw [hc] at hs
      obtain ⟨t, ht, hp, hleft, hwlen, hcfg, -⟩ := runLoop_turn hc
      obtain ⟨-, hfit, -⟩ := runContinues_extractOp hc
      obtain ⟨hin, hpipe⟩ := pipelineOp_eq_next.1 ht
      have hd' : decode t.cfg x = .ok .run := by rw [hcfg]; exact hd
      have hstride := (Config.bounds s.cfg).2.2.1
      have hn := n_pos s
      obtain ⟨u, hu, hreach⟩ := ih ((extractOp_atRest hr).of_same hp.sequencer hp.hostSide) hd'
        (by rw [hwlen, hleft]; omega) (by omega)
      have h := reaches_pipeline (s := extractOp s) (by simpa using hd) (.inr rfl) hin
      rw [← hpipe, afterPeak, seqInstr_executing x _ _ _ _ t hd'] at h
      exact ⟨u, (runLoop_goes_on hc ht fuel).trans hu, (h.head hs).trans hreach⟩

theorem viewsAgree_run {x : Word} {s : State} (hr : AtRest s) (hd : decode s.cfg x = .ok .run) :
    ViewsAgree x .run s := by
  obtain ⟨t, ht, hreach⟩ := reaches_runLoop (runFuel s) hr hd (by unfold runFuel; omega) (Nat.succ_pos _)
  exact ⟨t, ht, by rwa [acceptCmd_eq_executing x s _ hr.host]⟩

/-- R214 and R15: a word taken up by the sequencer with FAULT = 0 leads to what its command does as one transition. -/
theorem cmdBegin_reaches {x : Word} {s : State} {c : Instr} (hr : AtRest s) (hf : s.fault = false)
    (hb : s.bv = true → s.cur.toNat + s.n ≤ s.wlen.toNat) (hd : decode s.cfg x = .ok c) :
    ∃ t, exec c s = .next t ∧ Reaches (cmdBegin x s) t := by
  rw [cmdBegin, hf, hd]
  cases c with
  | rewind => exact viewsAgree_rewind hr hd
  | extract => exact viewsAgree_extract hr hd
  | window =>
    cases hbv : s.bv with
    | true => exact viewsAgree_window hr hd hbv (hb hbv)
    | false =>
      refine ⟨raiseFault causeNoBlock (encode .window) s, if_neg (by simp [hbv]), ?_⟩
      rw [(decode_eq_ok hd).1]
      exact .refl
  | bitrev => exact viewsAgree_bitrev hr hd
  | pass p => exact viewsAgree_pass hr hd
  | fft => exact viewsAgree_fft hr hd
  | peak => exact viewsAgree_peak hr hd
  | block => exact viewsAgree_block hr hd hb
  | run => exact viewsAgree_run hr hd

/-- Settles O18: the first step takes the word up, and its micro-steps reach what `exec` gives. -/
theorem microStepsReachAtomicResult : Obligations.MicroStepsReachAtomicResult := by
  intro s x c hinv hb hf hh hd
  have hseq : s.seq = Seq.idle := by simpa [seqOk, hb] using hinv.sequencer
  have hfirst : step s = .next (cmdBegin x { s with host := [] }) := step_of_idle hb hh
  obtain ⟨t, ht, hreach⟩ := cmdBegin_reaches (s := { s with host := [] }) ⟨hb, hseq, rfl⟩ hf hinv.blockInside hd
  obtain ⟨k, hk⟩ := Reaches.run (hreach.head hfirst)
  exact ⟨k, t, hk, ht⟩

end Sys2Proof.Machine

/-! Proofs: what a step is, the invariant of the machine (R23 to R43), RES (R28), and the registers and memories that the
host sees (R36 to R41, R47, R61, R77). -/

namespace Sys2Proof.Machine

/-! ### What a step can do -/

/-- A host operation that is not held is performed, busy or not (R73, R240). -/
theorem step_of_not_held {s : State} {op : HostOp} {rest : List HostOp} (hh : s.host = op :: rest)
    (hn : heldOp op = false) (hw : op ≠ .wait) : step s = hostPerform op { s with host := rest } := by
  have hd : dropOp s = { s with host := rest } := by simp [dropOp, hh]
  simp [step, machineStep, hh, hn, hw, hd]

/-- A step is one of three things: nothing, a micro-step of the executing command, or a host operation, which while
BUSY = 1 is one that is not held. -/
theorem step_cases {s t : State} (h : step s = .next t) :
    t = s ∨ (s.busy = true ∧ ∃ l, microStep { s with host := l } = .next t) ∨
      ∃ op rest, s.host = op :: rest ∧ (s.busy = true → heldOp op = false ∧ op ≠ .wait) ∧
        hostPerform op { s with host := rest } = .next t := by
  unfold step machineStep at h
  split at h
  · split at h
    · rename_i hb
      exact .inr (.inl ⟨hb, s.host, h⟩)
    · exact .inl (Host.Outcome.next.inj h).symm
  · rename_i op rest hh
    have hd : dropOp s = { s with host := rest } := by simp [dropOp, hh]
    rw [hd] at h
    split at h
    · rename_i hb
      exact .inr (.inl ⟨(Bool.and_eq_true_iff.1 hb).1, rest, h⟩)
    · split at h
      · rename_i hb
        exact .inr (.inl ⟨(Bool.and_eq_true_iff.1 hb).1, s.host, h⟩)
      · exact .inr (.inr ⟨op, rest, hh, by simp_all, h⟩)

/-- R73, R240: what completes while BUSY = 1 is a read of STATUS or a reset. -/
theorem eq_of_not_held {op : HostOp} (hn : heldOp op = false) (hw : op ≠ .wait) : op = .readCsr 4 ∨ op = .reset := by
  cases op <;> simp_all [heldOp]

/-- R40, R41: only WLEN and CMD take a write. -/
theorem csrWrite_other {k : Nat} (h2 : k ≠ 2) (h3 : k ≠ 3) (x : Word) (s : State) : csrWrite k x s = .next s := by
  unfold csrWrite
  split
  · exact absurd rfl h2
  · exact absurd rfl h3
  · rfl

/-- R65: a 32-bit store is a register write; one to a high half does what a write of the read-only register 0 does. -/
theorem csrStore32_eq_csrWrite (w : Nat) (x : Word) (s : State) : ∃ k, csrStore32 w x s = csrWrite k x s := by
  unfold csrStore32
  split
  · exact ⟨w / 2, rfl⟩
  · exact ⟨0, rfl⟩

/-! ### The invariant without the sequencer -/

/-- The part of `State.Inv` that does not speak of BUSY and SEQ, field by field. -/
structure DataInv (s : State) : Prop where
  waveWf : Memory.wf s.wave = true
  bufWf : Buffer.wf s.n s.buf = true
  blockInside : s.bv = true → s.cur.toNat + s.n ≤ s.wlen.toNat
  flagsExclusive : ¬(s.bv = true ∧ s.exh = true)
  leftOnStride : s.cfg.stepSize ∣ s.left.toNat
  peakIndex : s.pkidx.toNat < s.n
  resultCount : s.rcount = BitVec.ofNat 32 s.res.length
  faultRecord : faultRecordOk s

theorem State.Inv.data {s : State} (h : s.Inv) : DataInv s :=
  ⟨h.waveWf, h.bufWf, h.blockInside, h.flagsExclusive, h.leftOnStride, h.peakIndex, h.resultCount, h.faultRecord⟩

theorem DataInv.inv {s : State} (h : DataInv s) (hq : seqOk s) : s.Inv :=
  ⟨h.waveWf, h.bufWf, h.blockInside, h.flagsExclusive, h.leftOnStride, h.peakIndex, h.resultCount, h.faultRecord, hq⟩

/-- It does not speak of the host's side either. -/
theorem DataInv.withControl {s : State} (h : DataInv s) (b : Bool) (q : Seq) (l : List HostOp) :
    DataInv { s with busy := b, seq := q, host := l } :=
  ⟨h.waveWf, h.bufWf, h.blockInside, h.flagsExclusive, h.leftOnStride, h.peakIndex, h.resultCount, h.faultRecord⟩

/-- Where WAVE, BUF's length, the extractor, the faults and the configuration are as before, only the results are left
to look at. -/
theorem DataInv.of_same {s t : State} (h : DataInv s) (hw : t.wave = s.wave) (hb : t.buf.length = s.buf.length)
    (hx : SameExtractor s t) (hf : SameFaults s t) (hc : t.cfg = s.cfg) (hp : t.pkidx.toNat < s.n)
    (hr : t.rcount = BitVec.ofNat 32 t.res.length) : DataInv t := by
  have hn : t.n = s.n := congrArg Config.blockSize hc
  refine ⟨hw ▸ h.waveWf, ?_, ?_, ?_, ?_, hn ▸ hp, hr, ?_⟩
  · simpa [Buffer.wf, hn, hb] using h.bufWf
  · rw [hx.bv, hx.cur, hx.wlen, hn]
    exact h.blockInside
  · rw [hx.bv, hx.exh]
    exact h.flagsExclusive
  · rw [hc, hx.left]
    exact h.leftOnStride
  · unfold faultRecordOk
    rw [hf.fault, hf.cause, hf.finfo, hc]
    exact h.faultRecord

theorem DataInv.of_control {s t : State} (h : DataInv s) (hc : SameControl s t) : DataInv t :=
  h.of_same hc.wave hc.bufLength hc.extractor hc.faults hc.hostSide.cfg (hc.results.pkidx ▸ h.peakIndex)
    (by rw [hc.results.rcount, hc.results.res, h.resultCount])

/-- R30, R40: one more result is one more in RCOUNT, found at an index of BUF. -/
theorem DataInv.of_pipelined {s t : State} (h : DataInv s) (hp : Pipelined s t) : DataInv t :=
  h.of_same hp.wave hp.bufLength hp.extractor hp.faults hp.hostSide.cfg hp.appended.pkidx
    (by rw [hp.appended.rcount, hp.appended.res, h.resultCount, List.length_append, BitVec.ofNat_add]; rfl)

/-- The last operation of PEAK, where the scan selected an index of BUF (R193). -/
theorem peakCommit_pipelined {s : State} (h : s.bi.toNat < s.n) : Pipelined s (peakCommit s) :=
  ⟨⟨rfl, h, rfl⟩, rfl, ⟨rfl, rfl, rfl, rfl, rfl⟩, ⟨rfl, rfl, rfl⟩, ⟨rfl, rfl⟩, ⟨rfl, rfl, rfl, rfl⟩, rfl⟩

theorem peakOp_pipelined (s : State) : Pipelined s (peakOp s) :=
  have ⟨hw, hx, hf, hq, hh⟩ := peakOp_keeps s
  ⟨peakOp_appended s, hw, hx, hf, hq, hh, congrArg List.length (peakOp_buf s)⟩

/-- R25, R27, R29: EXTRACT moves by one stride, to a block inside the Waveform, and never leaves both flags set. -/
protected theorem DataInv.extractOp {s : State} (h : DataInv s) : DataInv (extractOp s) := by
  obtain ⟨-, hs⟩ | ⟨he, hfit, hs⟩ | ⟨-, -, hs⟩ := extractOp_cases s <;> rw [hs]
  · exact h
  · refine { h with blockInside := fun _ => hfit, flagsExclusive := by simp [he], leftOnStride := ?_ }
    rw [left_add_stepSize s hfit]
    exact dvd_add h.leftOnStride dvd_rfl
  · exact { h with blockInside := nofun, flagsExclusive := by simp }

/-- R143: a new length rewinds, so no block is current. -/
protected theorem DataInv.wlenWrite {s : State} (h : DataInv s) (x : Word) : DataInv (wlenWrite x s) :=
  { h with blockInside := nofun, flagsExclusive := by simp, leftOnStride := by simp }

protected theorem DataInv.rewindOp {s : State} (h : DataInv s) : DataInv (rewindOp s) := h.wlenWrite s.wlen

protected theorem DataInv.raiseFault {s : State} (h : DataInv s) {c : BitVec 4} {x : Word}
    (hc : (c = causeIllegalCmd ∧ ∃ e, decode s.cfg x = .error e) ∨ (c = causeNoBlock ∧ x = 3)) :
    DataInv (raiseFault c x s) := { h with faultRecord := hc }

/-! ### The two ways the sequencer can stand (R43) -/

/-- The invariant, between commands. -/
structure Idle (s : State) : Prop where
  data : DataInv s
  busy : s.busy = false
  seq : s.seq = Seq.idle

/-- The invariant inside command `c`, without the position SEQ is at. -/
structure Working (c : Instr) (s : State) : Prop where
  data : DataInv s
  busy : s.busy = true
  noFault : s.fault = false
  instr : seqInstr s = some c

theorem Idle.inv {s : State} (h : Idle s) : s.Inv := h.data.inv (by simp [seqOk, h.busy, h.seq])

theorem Working.inv {c : Instr} {s : State} (h : Working c s) (hp : seqPositionOk s c) : s.Inv :=
  h.data.inv (by simpa [seqOk, h.busy, h.noFault, h.instr] using hp)

theorem State.Inv.idle {s : State} (h : s.Inv) (hb : s.busy = false) : Idle s :=
  ⟨h.data, hb, by simpa [seqOk, hb] using h.sequencer⟩

theorem State.Inv.working {s : State} (h : s.Inv) (hb : s.busy = true) : ∃ c, Working c s ∧ seqPositionOk s c := by
  obtain ⟨hf, c, hc, hp⟩ : s.fault = false ∧ ∃ c, seqInstr s = some c ∧ seqPositionOk s c := by
    simpa [seqOk, hb] using h.sequencer
  exact ⟨c, ⟨h.data, hb, hf, hc⟩, hp⟩

/-- What the host has pending, has read and has received plays no part in the invariant. -/
theorem State.Inv.withHostSide {s : State} (h : s.Inv) (l : List HostOp) (r : List (BitVec 64)) (k : Nat) :
    State.Inv { s with host := l, reads := r, taken := k } :=
  ⟨h.waveWf, h.bufWf, h.blockInside, h.flagsExclusive, h.leftOnStride, h.peakIndex, h.resultCount, h.faultRecord,
    h.sequencer⟩

theorem Idle.of_same {s t : State} (h : Idle s) (hd : DataInv t) (hq : SameSequencer s t) : Idle t :=
  ⟨hd, hq.busy.trans h.busy, hq.seq.trans h.seq⟩

theorem Idle.of_control {s t : State} (h : Idle s) (hc : SameControl s t) : Idle t :=
  h.of_same (h.data.of_control hc) hc.sequencer

theorem Idle.of_pipelined {s t : State} (h : Idle s) (hp : Pipelined s t) : Idle t :=
  h.of_same (h.data.of_pipelined hp) hp.sequencer

protected theorem Idle.extractOp {s : State} (h : Idle s) : Idle (extractOp s) :=
  h.of_same h.data.extractOp ⟨by simp, by simp⟩

protected theorem Idle.raiseFault {s : State} (h : Idle s) {c : BitVec 4} {x : Word}
    (hc : (c = causeIllegalCmd ∧ ∃ e, decode s.cfg x = .error e) ∨ (c = causeNoBlock ∧ x = 3)) :
    Idle (raiseFault c x s) := ⟨h.data.raiseFault hc, rfl, rfl⟩

/-- R47, R240: whatever the state was, after a reset only WAVE is left to look at. -/
theorem resetCore_idle {s : State} (h : Memory.wf s.wave = true) : Idle (resetCore s) := by
  refine ⟨⟨h, by simp [State.n], nofun, by simp, by simp, ?_, rfl, ⟨rfl, rfl⟩⟩, rfl, rfl⟩
  simpa using n_pos s

/-! ### Commands as atomic transitions -/

/-- WINDOW runs its loop, or finds no current block (R152, R213). -/
theorem execWindow_cases {s t : State} (h : execWindow s = .next t) :
    SameControl s t ∨ (s.bv = false ∧ t = raiseFault causeNoBlock (encode .window) s) := by
  unfold execWindow at h
  split at h
  · obtain ⟨-, rfl⟩ := windowOp_eq_next.1 h
    exact .inl (loopUp_control winElem winElem_control s.n s)
  · rename_i hb
    exact .inr ⟨by simpa using hb, (Host.Outcome.next.inj h).symm⟩

/-- PASS does its pass, or its number is out of range (R168). -/
theorem execPass_cases {p : BitVec 8} {s t : State} (h : execPass p s = .next t) :
    SameControl s t ∨
      (Instr.wellFormed s.cfg (.pass p) = false ∧ t = raiseFault causeIllegalCmd (encode (.pass p)) s) := by
  unfold execPass at h
  split at h
  · exact .inl (Host.Outcome.next.inj h ▸ passOp_control _ s)
  · rename_i hp
    refine .inr ⟨?_, (Host.Outcome.next.inj h).symm⟩
    simpa [Instr.wellFormed, passNumber] using hp

/-- BLOCK extracts, and sends the block through the pipeline if there is one (R194). -/
theorem execBlock_cases {s t : State} (h : execBlock s = .next t) : t = extractOp s ∨ Pipelined (extractOp s) t := by
  unfold execBlock at h
  split at h
  · exact .inr (pipelineOp_pipelined h)
  · exact .inl (Host.Outcome.next.inj h).symm

/-- The rule of RUN's loop (R195): a relation that EXTRACT and a block's pipeline meet, and that composes, holds from
its start to its end. -/
theorem runLoop_relates {R : State → State → Prop} (hr : ∀ s, R s s) (htrans : ∀ {a b c}, R a b → R b c → R a c)
    (hx : ∀ s, R s (extractOp s)) (hp : ∀ {s t}, Pipelined s t → R s t) {fuel : Nat} {s t : State}
    (h : runLoop fuel s = .next t) : R s t := by
  induction fuel generalizing s with
  | zero => exact Host.Outcome.next.inj h ▸ hr s
  | succ fuel ih =>
    rw [runLoop] at h
    split at h
    · obtain ⟨u, hu, h⟩ := andThen_eq_next.1 h
      exact htrans (htrans (hx s) (hp (pipelineOp_pipelined hu))) (ih h)
    · exact Host.Outcome.next.inj h ▸ hx s

/-- A command that the decoder lets through keeps the invariant. -/
theorem exec_idle {c : Instr} {s t : State} (h : Idle s) (hc : c.wellFormed s.cfg = true) (ht : exec c s = .next t) :
    Idle t := by
  cases c with
  | rewind =>
    obtain rfl := Host.Outcome.next.inj ht
    exact h.of_same h.data.rewindOp ⟨rfl, rfl⟩
  | extract =>
    obtain rfl := Host.Outcome.next.inj ht
    exact h.extractOp
  | window =>
    obtain hw | ⟨-, rfl⟩ := execWindow_cases ht
    · exact h.of_control hw
    · exact h.raiseFault (.inr ⟨rfl, rfl⟩)
  | bitrev =>
    obtain rfl := Host.Outcome.next.inj ht
    exact h.of_control (bitrevOp_control s)
  | pass p =>
    obtain hp | ⟨hp, -⟩ := execPass_cases ht
    · exact h.of_control hp
    · exact absurd (hc.symm.trans hp) nofun
  | fft =>
    obtain rfl := Host.Outcome.next.inj ht
    exact h.of_control (fftOp_control s)
  | peak =>
    obtain rfl := Host.Outcome.next.inj ht
    exact h.of_pipelined (peakOp_pipelined s)
  | block =>
    obtain rfl | hb := execBlock_cases ht
    · exact h.extractOp
    · exact h.extractOp.of_pipelined hb
  | run =>
    exact runLoop_relates (R := fun a b => Idle a → Idle b) (fun _ => id) (fun hab hbc ha => hbc (hab ha))
      (fun _ => Idle.extractOp) (fun hp ha => ha.of_pipelined hp) ht h

/-- R214: a CMD write as one transition is discarded, takes ILLEGAL_CMD, or is a well-formed command. -/
theorem cmdWrite_idle {x : Word} {s t : State} (h : Idle s) (ht : cmdWrite x s = .next t) : Idle t := by
  unfold cmdWrite at ht
  split at ht
  · exact Host.Outcome.next.inj ht ▸ h
  · split at ht
    · rename_i e he
      exact Host.Outcome.next.inj ht ▸ h.raiseFault (.inl ⟨rfl, e, he⟩)
    · rename_i c hd
      exact exec_idle h (decode_eq_ok hd).2 ht

theorem csrWrite_idle {k : Nat} {x : Word} {s t : State} (h : Idle s) (ht : csrWrite k x s = .next t) : Idle t := by
  unfold csrWrite at ht
  split at ht
  · exact Host.Outcome.next.inj ht ▸ h.of_same (h.data.wlenWrite x) ⟨rfl, rfl⟩
  · exact cmdWrite_idle h ht
  · exact Host.Outcome.next.inj ht ▸ h

/-! ### Acceptance by the sequencer (R44, R214) -/

/-- R43: PASS's number fits SEQ's five bits. -/
theorem toNat_passIndex {p : Nat} {c : Config} (h : p ≤ c.lgn) : (BitVec.ofNat 5 p).toNat = p := by
  have hl := lgn_le c
  rw [BitVec.toNat_ofNat, Nat.mod_eq_of_lt (by omega)]

/-- An accepted command starts at a position of its own. -/
theorem acceptCmd_inv {x : Word} {c : Instr} {s : State} (h : Idle s) (hf : s.fault = false)
    (hd : decode s.cfg x = .ok c) (hbv : c = .window → s.bv = true) : (acceptCmd x c s).Inv := by
  have hw : Working c (acceptCmd x c s) := ⟨h.data.withControl true _ s.host, rfl, hf, by simp [seqInstr, hd]⟩
  have hn : 0 < (acceptCmd x c s).n := n_pos _
  refine hw.inv ?_
  cases c with
  | rewind => exact .inl rfl
  | extract => exact .inr (.inl rfl)
  | window => exact ⟨.inl rfl, hbv rfl, hn⟩
  | bitrev => exact ⟨.inl rfl, hn⟩
  | pass p =>
    obtain ⟨h1, hp⟩ : 1 ≤ p.toNat ∧ p.toNat ≤ s.cfg.lgn := by simpa [Instr.wellFormed] using (decode_eq_ok hd).2
    have hs : (acceptCmd x (.pass p) s).seq.s.toNat = p.toNat := toNat_passIndex hp
    exact ⟨.inl ⟨p, rfl, hs.symm⟩, hs.symm ▸ h1, hs.symm ▸ hp, dvd_zero _, hn, hs.symm ▸ halfLength_pos p.toNat⟩
  | fft => exact ⟨.inr (.inl rfl), hn⟩
  | peak => exact ⟨.inl rfl, hn, fun h0 => absurd rfl h0⟩
  | block => exact .inr (.inr (.inl rfl))
  | run => exact .inr (.inr (.inr rfl))

theorem cmdBegin_inv {x : Word} {s : State} (h : Idle s) : (cmdBegin x s).Inv := by
  unfold cmdBegin
  split
  · exact h.inv
  · rename_i hf
    have hf : s.fault = false := by simpa using hf
    split
    · rename_i e he
      exact (h.raiseFault (.inl ⟨rfl, e, he⟩)).inv
    · rename_i hd
      split
      · rename_i hbv
        exact acceptCmd_inv h hf hd fun _ => hbv
      · exact (h.raiseFault (.inr ⟨rfl, (decode_eq_ok hd).1.symm⟩)).inv
    · rename_i hc hd
      exact acceptCmd_inv h hf hd fun e => absurd e hc

/-! ### Host operations -/

theorem giveHost_inv {s : State} (h : s.Inv) (v : BitVec 64) : (giveHost v s).Inv := h.withHostSide s.host _ s.taken

theorem receiveOp_inv {s : State} (h : s.Inv) : (receiveOp s).Inv := by
  unfold receiveOp
  split
  · exact h.withHostSide s.host _ _
  · exact h

/-- R77: every host operation keeps the invariant between commands. -/
theorem hostPerform_idle {op : HostOp} {s t : State} (h : Idle s) (ht : hostPerform op s = .next t) : t.Inv := by
  cases op with
  | writeWave a x =>
    obtain rfl := Host.Outcome.next.inj ht
    exact { h.inv with waveWf := Memory.wf_waveWrite s.wave a x h.data.waveWf }
  | readWave a => exact Host.Outcome.next.inj ht ▸ giveHost_inv h.inv _
  | writeCsr k x => exact (csrWrite_idle h ht).inv
  | readCsr k => exact Host.Outcome.next.inj ht ▸ giveHost_inv h.inv _
  | writeBuf m x =>
    obtain rfl := Host.Outcome.next.inj ht
    exact { h.inv with bufWf := (Buffer.wf_bufWriteLoc s.n s.n s.buf m x).trans h.data.bufWf }
  | readBuf m => exact Host.Outcome.next.inj ht ▸ giveHost_inv h.inv _
  | receive => exact Host.Outcome.next.inj ht ▸ receiveOp_inv h.inv
  | reset => exact Host.Outcome.next.inj ht ▸ (resetCore_idle h.data.waveWf).inv
  | beginCmd x => exact Host.Outcome.next.inj ht ▸ cmdBegin_inv h
  | storeCsr32 w x =>
    obtain ⟨k, hk⟩ := csrStore32_eq_csrWrite w x s
    exact (csrWrite_idle h (hk.symm.trans ht)).inv
  | storeCsr64 k x => exact (csrWrite_idle h ht).inv
  | wait => exact Host.Outcome.next.inj ht ▸ h.inv

/-- The two operations that complete inside a command keep the invariant too. -/
theorem hostPerform_inv {op : HostOp} {s t : State} (h : s.Inv) (ho : s.busy = true → heldOp op = false ∧ op ≠ .wait)
    (ht : hostPerform op s = .next t) : t.Inv := by
  cases hb : s.busy with
  | false => exact hostPerform_idle (h.idle hb) ht
  | true =>
    obtain ⟨hn, hw⟩ := ho hb
    obtain rfl | rfl := eq_of_not_held hn hw
    · exact Host.Outcome.next.inj ht ▸ giveHost_inv h _
    · exact Host.Outcome.next.inj ht ▸ (resetCore_idle h.waveWf).inv

/-! ### Micro-steps: from one position of a command to the next (R44) -/

section
variable {c : Instr} {s : State}

theorem seqPositionOk_window (h : s.seq.stage = .window) :
    seqPositionOk s c ↔ (c = .window ∨ runsPipeline c) ∧ s.bv = true ∧ s.seq.i.toNat < s.n := by
  simp [seqPositionOk, h, runsPipeline]

theorem seqPositionOk_bitrev (h : s.seq.stage = .bitrev) :
    seqPositionOk s c ↔ (c = .bitrev ∨ runsFft c) ∧ s.seq.i.toNat < s.n := by
  simp [seqPositionOk, h, runsFft, runsPipeline]

theorem seqPositionOk_pass (h : s.seq.stage = .pass) :
    seqPositionOk s c ↔
      ((∃ p : BitVec 8, c = .pass p ∧ passNumber p = s.seq.s.toNat) ∨ runsFft c) ∧
        1 ≤ s.seq.s.toNat ∧ s.seq.s.toNat ≤ s.cfg.lgn ∧
        stepLength s.seq.s.toNat ∣ s.seq.i.toNat ∧ s.seq.i.toNat < s.n ∧
        s.seq.j.toNat < halfLength s.seq.s.toNat := by
  simp [seqPositionOk, h, runsFft, runsPipeline]

theorem seqPositionOk_peak (h : s.seq.stage = .peak) :
    seqPositionOk s c ↔
      (c = .peak ∨ runsPipeline c) ∧ s.seq.i.toNat < s.n ∧ (s.seq.i.toNat ≠ 0 → s.bi.toNat < s.n) := by
  simp [seqPositionOk, h, runsPipeline]

end

/-- The operation of a micro-step leaves the stage. -/
theorem SameControl.setIndices_stage {s u : State} (h : SameControl s u) (i j : Nat) :
    (setIndices i j u).seq.stage = s.seq.stage := congrArg (·.stage) h.sequencer.seq

/-- The next index of BUF fits SEQ. -/
theorem setIndices_lt {i : Nat} (j : Nat) {s : State} (h : i < s.n) :
    (setIndices i j s).seq.i.toNat < (setIndices i j s).n := (toNat_index h).trans_lt h

theorem stepLength_le {p : Nat} {s : State} (h : p ≤ s.cfg.lgn) : stepLength p ≤ s.n := by
  rw [State.n, ← two_pow_lgn]
  exact Nat.pow_le_pow_right (by omega) h

/-- R31: the index selected so far is one of BUF. -/
theorem scanTurn_bi_lt {k : Nat} {s : State} (hk : k < s.n) (hbi : k ≠ 0 → s.bi.toNat < s.n) :
    (scanTurn k s).bi.toNat < s.n := by
  unfold scanTurn
  split
  · simpa using n_pos s
  · rename_i h0
    unfold scanStep
    split
    · exact (Nat.mod_le _ _).trans_lt hk
    · exact hbi h0

section
variable {c : Instr} {s t : State} (h : Working c s)
include h

theorem Working.of_same (hd : DataInv t) (hf : SameFaults s t) (hq : SameSequencer s t) (hc : t.cfg = s.cfg) :
    Working c t := by
  refine ⟨hd, hq.busy.trans h.busy, hf.fault.trans h.noFault, ?_⟩
  rw [← h.instr, seqInstr, seqInstr, hq.seq, hc]

theorem Working.of_control (hc : SameControl s t) : Working c t :=
  h.of_same (h.data.of_control hc) hc.faults hc.sequencer hc.hostSide.cfg

theorem Working.of_pipelined (hp : Pipelined s t) : Working c t :=
  h.of_same (h.data.of_pipelined hp) hp.faults hp.sequencer hp.hostSide.cfg

protected theorem Working.extractOp : Working c (extractOp s) :=
  h.of_same h.data.extractOp ⟨by simp, by simp, by simp⟩ ⟨by simp, by simp⟩ (by simp)

protected theorem Working.enterStage (st : Stage) (p : Nat) : Working c (enterStage st p s) :=
  ⟨h.data.withControl s.busy _ s.host, h.busy, h.noFault, h.instr⟩

protected theorem Working.setIndices (i j : Nat) : Working c (setIndices i j s) :=
  ⟨h.data.withControl s.busy _ s.host, h.busy, h.noFault, h.instr⟩

theorem Working.finishCmd_inv : (finishCmd s).Inv := Idle.inv ⟨h.data.withControl false Seq.idle s.host, rfl, rfl⟩

theorem Working.isPipeline_iff : isPipeline s = true ↔ runsPipeline c := by
  simp [isPipeline, h.instr, runsPipeline]

theorem Working.isFft_iff : (isPipeline s || seqInstr s == some .fft) = true ↔ runsFft c := by
  rw [Bool.or_eq_true, h.isPipeline_iff, h.instr]
  simp [runsFft, or_comm]

theorem Working.enterPass_inv (hc : runsFft c) {p : Nat} (h1 : 1 ≤ p) (hp : p ≤ s.cfg.lgn) :
    (enterStage .pass p s).Inv := by
  refine (h.enterStage .pass p).inv ?_
  have hs : (enterStage .pass p s).seq.s.toNat = p := toNat_passIndex hp
  exact ⟨.inr hc, hs.symm ▸ h1, hs.symm ▸ hp, dvd_zero _, n_pos _, hs.symm ▸ halfLength_pos p⟩

theorem Working.afterWindow_inv : (afterWindow s).Inv := by
  unfold afterWindow
  split
  · rename_i hp
    exact (h.enterStage .bitrev 1).inv ⟨.inr (.inr (h.isPipeline_iff.1 hp)), n_pos _⟩
  · exact h.finishCmd_inv

theorem Working.afterBitrev_inv : (afterBitrev s).Inv := by
  unfold afterBitrev
  split
  · rename_i hp
    exact h.enterPass_inv (h.isFft_iff.1 hp) le_rfl (lgn_pos s.cfg)
  · exact h.finishCmd_inv

theorem Working.afterPass_inv (p : Nat) : (afterPass p s).Inv := by
  unfold afterPass
  split
  · rename_i hp
    split
    · rename_i hl
      exact h.enterPass_inv (h.isFft_iff.1 hp) (Nat.succ_pos p) hl
    · split
      · rename_i hp
        exact (h.enterStage .peak 1).inv ⟨.inr (h.isPipeline_iff.1 hp), n_pos _, fun h0 => absurd rfl h0⟩
      · exact h.finishCmd_inv
  · exact h.finishCmd_inv

theorem Working.afterPeak_inv : (afterPeak s).Inv := by
  unfold afterPeak
  split
  · rename_i hr
    refine (h.enterStage .extract 1).inv (.inr (.inr (.inr ?_)))
    simpa [h.instr] using hr
  · exact h.finishCmd_inv

/-- ST_EXTRACT: BLOCK and RUN go on only with a current block (R27). -/
theorem Working.microExtract_inv : (microExtract s).Inv := by
  have hx := h.extractOp
  have hwin (hc : runsPipeline c) (hbv : (extractOp s).bv = true) :
      (enterStage .window 1 (extractOp s)).Inv :=
    (hx.enterStage .window 1).inv ⟨.inr hc, hbv, n_pos _⟩
  unfold microExtract
  split
  · exact Working.finishCmd_inv
      (h.of_same h.data.rewindOp ⟨rfl, rfl, rfl⟩ ⟨rfl, rfl⟩ rfl)
  · rename_i hi
    obtain rfl : c = .block := Option.some.inj (h.instr.symm.trans hi)
    split
    · rename_i hbv
      exact hwin (.inl rfl) hbv
    · exact hx.finishCmd_inv
  · rename_i hi
    obtain rfl : c = .run := Option.some.inj (h.instr.symm.trans hi)
    split
    · rename_i hr
      exact hwin (.inr rfl) (Bool.and_eq_true_iff.1 hr).1
    · exact hx.finishCmd_inv
  · exact hx.finishCmd_inv

/-- ST_WINDOW goes through the indices of BUF, with the block still current. -/
theorem Working.microWindow_inv (hst : s.seq.stage = .window) (hp : seqPositionOk s c)
    (ht : microWindow s.seq.i.toNat s = .next t) : t.Inv := by
  obtain ⟨hc, hbv, -⟩ := (seqPositionOk_window hst).1 hp
  have hm := winElem_control s.seq.i.toNat s
  have hw := h.of_control hm
  unfold microWindow at ht
  split at ht
  · split at ht <;> obtain rfl := Host.Outcome.next.inj ht
    · rename_i hi
      exact (hw.setIndices _ 0).inv
        ((seqPositionOk_window ((hm.setIndices_stage _ _).trans hst)).2 ⟨hc, hbv, setIndices_lt 0 hi⟩)
    · exact hw.afterWindow_inv
  · cases ht

/-- ST_BITREV goes through the indices of BUF. -/
theorem Working.microBitrev_inv (hst : s.seq.stage = .bitrev) (hp : seqPositionOk s c) :
    (microBitrev s.seq.i.toNat s).Inv := by
  obtain ⟨hc, -⟩ := (seqPositionOk_bitrev hst).1 hp
  have hm := swapOp_control s.seq.i.toNat s
  have hw := h.of_control hm
  unfold microBitrev
  split
  · rename_i hi
    exact (hw.setIndices _ 0).inv
      ((seqPositionOk_bitrev ((hm.setIndices_stage _ _).trans hst)).2 ⟨hc, setIndices_lt 0 (hm.n_eq.symm ▸ hi)⟩)
  · exact hw.afterBitrev_inv

/-- ST_PASS goes through the offsets of a group, then to the start of the next group. -/
theorem Working.microPass_inv (hst : s.seq.stage = .pass) (hp : seqPositionOk s c) :
    (microPass s.seq.s.toNat s.seq.i.toNat s.seq.j.toNat s).Inv := by
  obtain ⟨hc, h1, hl, hdvd, hi, -⟩ := (seqPositionOk_pass hst).1 hp
  have hm := microTurn_control s.seq.s.toNat s.seq.i.toNat s.seq.j.toNat s
  have hw := h.of_control hm
  have hq := hm.sequencer.seq
  have hcfg := hm.hostSide.cfg
  have hst' (i j : Nat) := (hm.setIndices_stage i j).trans hst
  unfold microPass
  split
  · rename_i hj
    have hjn : s.seq.j.toNat + 1 < s.n := hj.trans_le ((halfLength_le _).trans (stepLength_le hl))
    refine (hw.setIndices _ _).inv ((seqPositionOk_pass (hst' _ _)).2 ?_)
    simpa [hq, hcfg, hm.n_eq, toNat_index hi, toNat_index hjn] using ⟨hc, h1, hl, hdvd, hi, hj⟩
  · split
    · rename_i hn
      refine (hw.setIndices _ _).inv ((seqPositionOk_pass (hst' _ _)).2 ?_)
      simpa [hq, hcfg, hm.n_eq, toNat_index hn, halfLength_pos] using ⟨hc, h1, hl, hdvd, hn⟩
    · exact hw.afterPass_inv _

/-- ST_PEAK goes through the indices of BUF, and has selected one of them when it ends (R31). -/
theorem Working.microPeak_inv (hst : s.seq.stage = .peak) (hp : seqPositionOk s c) :
    (microPeak s.seq.i.toNat s).Inv := by
  obtain ⟨hc, hk, hbi⟩ := (seqPositionOk_peak hst).1 hp
  have hm := scanTurn_control s.seq.i.toNat s
  have hw := h.of_control hm
  have hbi : (scanTurn s.seq.i.toNat s).bi.toNat < (scanTurn s.seq.i.toNat s).n :=
    hm.n_eq.symm ▸ scanTurn_bi_lt hk hbi
  unfold microPeak
  rw [← scanTurn]
  split
  · rename_i hi
    exact (hw.setIndices _ 0).inv ((seqPositionOk_peak ((hm.setIndices_stage _ _).trans hst)).2
      ⟨hc, setIndices_lt 0 (hm.n_eq.symm ▸ hi), fun _ => hbi⟩)
  · exact (hw.of_pipelined (peakCommit_pipelined hbi)).afterPeak_inv

/-- A micro-step leads from a position of the command to one that meets the invariant. -/
theorem Working.microStep_inv (hp : seqPositionOk s c) (ht : microStep s = .next t) : t.Inv := by
  unfold microStep at ht
  split at ht
  · rename_i hst
    simp [seqPositionOk, hst] at hp
  · exact Host.Outcome.next.inj ht ▸ h.microExtract_inv
  · rename_i hst
    exact h.microWindow_inv hst hp ht
  · rename_i hst
    exact Host.Outcome.next.inj ht ▸ h.microBitrev_inv hst hp
  · rename_i hst
    exact Host.Outcome.next.inj ht ▸ h.microPass_inv hst hp
  · rename_i hst
    exact Host.Outcome.next.inj ht ▸ h.microPeak_inv hst hp

end

/-- Settles O13: a step is a micro-step from a position of the command in execution, or a host operation. -/
theorem invariantKeptByStep : Obligations.InvariantKeptByStep := by
  intro s t hs ht
  obtain rfl | ⟨hb, l, hm⟩ | ⟨op, rest, -, ho, hp⟩ := step_cases ht
  · exact hs
  · obtain ⟨c, hw, hp⟩ := (hs.withHostSide l s.reads s.taken).working hb
    exact hw.microStep_inv hp hm
  · exact hostPerform_inv (hs.withHostSide rest s.reads s.taken) ho hp

/-- Settles O12: `State.reset` is what a reset makes of it. -/
theorem invariantAtReset : Obligations.InvariantAtReset := (resetCore_idle (s := State.reset) Memory.wf_reset).inv

/-! ### RES (R28) -/

/-- What one micro-operation can do. -/
inductive MicroOp (s : State) : State → Prop where
  /-- An operation of the transform or of the scan, or none. -/
  | control {u : State} (h : SameControl s u) : MicroOp s u
  | rewind : MicroOp s (rewindOp s)
  | extract : MicroOp s (extractOp s)
  /-- The last operation of the scan, with the append. -/
  | append {u : State} (h : SameControl s u) : MicroOp s (peakCommit u)

/-- The rest of a micro-step moves the sequencer and nothing else. -/
def Moves (u t : State) : Prop := t = { u with busy := t.busy, seq := t.seq }

theorem afterWindow_moves (s : State) : Moves s (afterWindow s) := by
  unfold afterWindow
  split <;> rfl

theorem afterBitrev_moves (s : State) : Moves s (afterBitrev s) := by
  unfold afterBitrev
  split <;> rfl

theorem afterPass_moves (p : Nat) (s : State) : Moves s (afterPass p s) := by
  unfold afterPass
  split
  · split
    · rfl
    · split <;> rfl
  · rfl

theorem afterPeak_moves (s : State) : Moves s (afterPeak s) := by
  unfold afterPeak
  split <;> rfl

theorem microExtract_moves (s : State) : ∃ u, MicroOp s u ∧ Moves u (microExtract s) := by
  unfold microExtract
  split
  · exact ⟨rewindOp s, .rewind, rfl⟩
  · refine ⟨extractOp s, .extract, ?_⟩
    split <;> rfl
  · refine ⟨extractOp s, .extract, ?_⟩
    split <;> rfl
  · exact ⟨extractOp s, .extract, rfl⟩

/-- R44: a micro-step is one micro-operation and a move of the sequencer. -/
theorem microStep_moves {s t : State} (h : microStep s = .next t) : ∃ u, MicroOp s u ∧ Moves u t := by
  unfold microStep at h
  split at h
  · obtain rfl := Host.Outcome.next.inj h
    exact ⟨s, .control (.refl s), rfl⟩
  · exact Host.Outcome.next.inj h ▸ microExtract_moves s
  · unfold microWindow at h
    refine ⟨winElem s.seq.i.toNat s, .control (winElem_control _ s), ?_⟩
    split at h
    · split at h <;> obtain rfl := Host.Outcome.next.inj h
      · rfl
      · exact afterWindow_moves _
    · cases h
  · obtain rfl := Host.Outcome.next.inj h
    refine ⟨swapOp s.seq.i.toNat s, .control (swapOp_control _ s), ?_⟩
    unfold microBitrev
    split
    · rfl
    · exact afterBitrev_moves _
  · obtain rfl := Host.Outcome.next.inj h
    refine ⟨microTurn s.seq.s.toNat s.seq.i.toNat s.seq.j.toNat s, .control (microTurn_control _ _ _ s), ?_⟩
    unfold microPass
    split
    · rfl
    · split
      · rfl
      · exact afterPass_moves _ _
  · obtain rfl := Host.Outcome.next.inj h
    have hc := scanTurn_control s.seq.i.toNat s
    unfold microPeak
    rw [← scanTurn]
    split
    · exact ⟨_, .control hc, rfl⟩
    · exact ⟨_, .append hc, afterPeak_moves _⟩

/-- What the work of a command never touches, and RES, which it only appends to. -/
structure WorkKeeps (s t : State) : Prop where
  wave : t.wave = s.wave
  wlen : t.wlen = s.wlen
  res : s.res <+: t.res
  hostSide : SameHostSide s t

theorem WorkKeeps.refl (s : State) : WorkKeeps s s := ⟨rfl, rfl, List.prefix_rfl, .refl s⟩

theorem WorkKeeps.trans {a b c : State} (h : WorkKeeps a b) (k : WorkKeeps b c) : WorkKeeps a c :=
  ⟨k.wave.trans h.wave, k.wlen.trans h.wlen, h.res.trans k.res, h.hostSide.trans k.hostSide⟩

theorem SameControl.workKeeps {s t : State} (h : SameControl s t) : WorkKeeps s t :=
  ⟨h.wave, h.extractor.wlen, h.results.res ▸ List.prefix_rfl, h.hostSide⟩

theorem Pipelined.workKeeps {s t : State} (h : Pipelined s t) : WorkKeeps s t :=
  ⟨h.wave, h.extractor.wlen, h.appended.res ▸ List.prefix_append _ _, h.hostSide⟩

theorem extractOp_workKeeps (s : State) : WorkKeeps s (extractOp s) :=
  ⟨by simp, by simp, by simp, ⟨by simp, by simp, by simp, by simp⟩⟩

theorem MicroOp.workKeeps {s u : State} (h : MicroOp s u) : WorkKeeps s u := by
  cases h with
  | control h => exact h.workKeeps
  | rewind => exact ⟨rfl, rfl, List.prefix_rfl, ⟨rfl, rfl, rfl, rfl⟩⟩
  | extract => exact extractOp_workKeeps s
  | append h => exact h.workKeeps.trans ⟨rfl, rfl, List.prefix_append _ _, ⟨rfl, rfl, rfl, rfl⟩⟩

theorem Moves.workKeeps {u t : State} (h : Moves u t) : WorkKeeps u t := by
  rw [h]
  exact ⟨rfl, rfl, List.prefix_rfl, ⟨rfl, rfl, rfl, rfl⟩⟩

theorem microStep_workKeeps {s t : State} (h : microStep s = .next t) : WorkKeeps s t :=
  have ⟨_, ho, hm⟩ := microStep_moves h
  ho.workKeeps.trans hm.workKeeps

theorem raiseFault_workKeeps (c : BitVec 4) (x : Word) (s : State) : WorkKeeps s (raiseFault c x s) :=
  ⟨rfl, rfl, List.prefix_rfl, ⟨rfl, rfl, rfl, rfl⟩⟩

theorem exec_workKeeps {c : Instr} {s t : State} (ht : exec c s = .next t) : WorkKeeps s t := by
  cases c with
  | rewind => exact Host.Outcome.next.inj ht ▸ (MicroOp.rewind (s := s)).workKeeps
  | extract => exact Host.Outcome.next.inj ht ▸ extractOp_workKeeps s
  | window =>
    obtain hw | ⟨-, rfl⟩ := execWindow_cases ht
    · exact hw.workKeeps
    · exact raiseFault_workKeeps _ _ s
  | bitrev => exact Host.Outcome.next.inj ht ▸ (bitrevOp_control s).workKeeps
  | pass p =>
    obtain hp | ⟨-, rfl⟩ := execPass_cases ht
    · exact hp.workKeeps
    · exact raiseFault_workKeeps _ _ s
  | fft => exact Host.Outcome.next.inj ht ▸ (fftOp_control s).workKeeps
  | peak => exact Host.Outcome.next.inj ht ▸ (peakOp_pipelined s).workKeeps
  | block =>
    have hx := extractOp_workKeeps s
    obtain rfl | hb := execBlock_cases ht
    · exact hx
    · exact hx.trans hb.workKeeps
  | run => exact runLoop_relates .refl .trans extractOp_workKeeps Pipelined.workKeeps ht

theorem cmdWrite_workKeeps {x : Word} {s t : State} (ht : cmdWrite x s = .next t) : WorkKeeps s t := by
  unfold cmdWrite at ht
  split at ht
  · exact Host.Outcome.next.inj ht ▸ .refl s
  · split at ht
    · exact Host.Outcome.next.inj ht ▸ raiseFault_workKeeps _ _ s
    · exact exec_workKeeps ht

/-- Accepting a command or refusing it moves the sequencer and the fault record only. -/
theorem cmdBegin_workKeeps (x : Word) (s : State) : WorkKeeps s (cmdBegin x s) := by
  have hacc (c : Instr) : WorkKeeps s (acceptCmd x c s) := Moves.workKeeps rfl
  unfold cmdBegin
  split
  · exact .refl s
  · split
    · exact raiseFault_workKeeps _ _ s
    · split
      · exact hacc .window
      · exact raiseFault_workKeeps _ _ s
    · exact hacc _

theorem csrWrite_res {k : Nat} {x : Word} {s t : State} (ht : csrWrite k x s = .next t) : s.res <+: t.res := by
  unfold csrWrite at ht
  split at ht
  · exact Host.Outcome.next.inj ht ▸ List.prefix_rfl
  · exact (cmdWrite_workKeeps ht).res
  · exact Host.Outcome.next.inj ht ▸ List.prefix_rfl

@[simp] theorem receiveOp_res (s : State) : (receiveOp s).res = s.res := by
  unfold receiveOp
  split <;> rfl

/-- R28: of the host's operations only a reset takes anything from RES. -/
theorem hostPerform_res {op : HostOp} {s t : State} (ho : op ≠ .reset) (ht : hostPerform op s = .next t) :
    s.res <+: t.res := by
  cases op with
  | writeWave a x => exact Host.Outcome.next.inj ht ▸ List.prefix_rfl
  | readWave a => exact Host.Outcome.next.inj ht ▸ List.prefix_rfl
  | writeCsr k x => exact csrWrite_res ht
  | readCsr k => exact Host.Outcome.next.inj ht ▸ List.prefix_rfl
  | writeBuf m x => exact Host.Outcome.next.inj ht ▸ List.prefix_rfl
  | readBuf m => exact Host.Outcome.next.inj ht ▸ List.prefix_rfl
  | receive => exact Host.Outcome.next.inj ht ▸ (receiveOp_res s).symm ▸ List.prefix_rfl
  | reset => exact absurd rfl ho
  | beginCmd x => exact Host.Outcome.next.inj ht ▸ (cmdBegin_workKeeps x s).res
  | storeCsr32 w x =>
    obtain ⟨k, hk⟩ := csrStore32_eq_csrWrite w x s
    exact csrWrite_res (hk.symm.trans ht)
  | storeCsr64 k x => exact csrWrite_res ht
  | wait => exact Host.Outcome.next.inj ht ▸ List.prefix_rfl

/-- Settles O15: a micro-step and every host operation but a reset leave RES as it was or append to it. -/
theorem resultsOnlyGrow : Obligations.ResultsOnlyGrow := by
  intro s t ht hr
  have hpre : s.res <+: t.res := by
    obtain rfl | ⟨-, l, hm⟩ | ⟨op, rest, hh, -, hp⟩ := step_cases ht
    · exact List.prefix_rfl
    · exact (microStep_workKeeps hm).res
    · exact (hostPerform_res (fun e => hr (hh ▸ congrArg some e)) hp :)
  obtain ⟨l, hl⟩ := hpre
  exact ⟨l, hl.symm⟩

/-! ### The registers the host sees (R36, R40, R47) -/

theorem flagBit_toNat (b : Bool) : (flagBit b).toNat = b.toNat := by cases b <;> rfl

/-- R36: STATUS as a number. -/
theorem statusWord_toNat (s : State) :
    (statusWord s).toNat =
      s.busy.toNat + 2 * s.bv.toNat + 4 * s.exh.toNat + 8 * s.fault.toNat + 16 * s.cause.toNat := by
  simp only [statusWord, toNat_append_add, flagBit_toNat, BitVec.toNat_ofNat]
  omega

/-- Settles O39: each flag stands one bit above the next. -/
theorem statusLayout : Obligations.StatusLayout := statusWord_toNat

theorem statusWord_resetCore (s : State) : statusWord (resetCore s) = 0 :=
  BitVec.eq_of_toNat_eq (by simp [statusWord_toNat])

/-- Settles O10: a reset is never held. -/
theorem resetValues : Obligations.ResetValues := by
  intro s rest hh
  refine ⟨resetCore { s with host := rest }, step_of_not_held hh rfl nofun, rfl, List.length_replicate,
    fun i _ => bufRead_zeros _ i, ?_⟩
  simp [statusWord_resetCore, Seq.idle]

/-- Settles O11: `State.reset` is what a reset makes of it. -/
theorem powerOnState : Obligations.PowerOnState :=
  ⟨rfl, List.length_replicate, fun i _ => bufRead_zeros _ i, rfl, rfl, rfl, rfl, rfl, rfl, rfl, rfl, rfl, rfl, rfl,
    rfl, statusWord_resetCore State.reset, rfl, rfl⟩

/-- R40: the register of each number, as a number. -/
theorem csrRead_toNat (s : State) (k : Nat) :
    (csrRead s k).toNat =
      if k = 0 then s.cfg.blockSize else if k = 1 then s.cfg.stepSize else if k = 2 then s.wlen.toNat
      else if k = 4 then (statusWord s).toNat else if k = 5 then s.left.toNat else if k = 6 then s.cur.toNat
      else if k = 7 then s.rcount.toNat else if k = 8 then s.pkidx.toNat else if k = 9 then s.pkmag.toNat
      else if k = 10 then s.finfo.toNat else 0 := by
  have hb := Config.bounds s.cfg
  have hext (x : Word) : (x.setWidth 64).toNat = x.toNat := BitVec.toNat_setWidth_of_le (by decide)
  unfold csrRead
  split
  · exact Nat.mod_eq_of_lt (by omega)
  · exact Nat.mod_eq_of_lt (by omega)
  · exact hext s.wlen
  · rfl
  · exact hext (statusWord s)
  · exact hext s.left
  · exact hext s.cur
  · exact hext s.rcount
  · exact hext s.pkidx
  · rfl
  · exact hext s.finfo
  · simp_all

/-- Settles O40: the value returned is `csrRead`. -/
theorem registerReads : Obligations.RegisterReads := by
  intro s k rest hb hh
  exact ⟨csrRead s k, step_of_idle hb hh, csrRead_toNat s k⟩

/-- Settles O41: in whatever form it comes the write is a `csrWrite`, which ignores it. -/
theorem otherRegisterWritesIgnored : Obligations.OtherRegisterWritesIgnored := by
  intro s op k x rest hb h2 h3 hh hw
  calc step s = hostPerform op { s with host := rest } := step_of_idle hb hh
    _ = csrWrite k x { s with host := rest } := hostPerform_registerWrite hw _
    _ = .next { s with host := rest } := csrWrite_other h2 h3 x _

/-! ### WAVE and RES as the host sees them (R61, R77) -/

/-- R61: a sample reads as what was last written to it. -/
theorem waveRead_waveWrite_same (m : Memory) (a : Nat) (h : Half) : waveRead (waveWrite m a h) a = h := by
  rw [waveRead, waveByte_waveWrite_high, waveByte_waveWrite_low,
    BitVec.extractLsb'_append_extractLsb'_eq_extractLsb' (by decide), BitVec.extractLsb'_eq_self]

/-- Settles O43: the laws of `waveWrite`. -/
theorem hostSampleWrite : Obligations.HostSampleWrite := by
  intro s a h rest hb hh
  exact ⟨waveWrite s.wave a.toNat h, step_of_idle hb hh, waveRead_waveWrite_same _ _ _,
    fun _ hne => waveByte_waveWrite_other _ _ _ hne, Memory.wf_waveWrite _ _ _⟩

theorem receiveOp_of_lt {s : State} (h : s.taken < s.res.length) :
    receiveOp s = { s with reads := s.reads ++ [s.res[s.taken]], taken := s.taken + 1 } := by
  simp [receiveOp, giveHost, h]

theorem receiveOp_of_le {s : State} (h : s.res.length ≤ s.taken) : receiveOp s = s := by
  simp [receiveOp, h]

/-- Settles O44: a step on a receive is `receiveOp`, by whether a result is left. -/
theorem resultsAreReceivedInOrder : Obligations.ResultsAreReceivedInOrder := by
  intro s rest hb hh
  have hs : step s = .next (receiveOp { s with host := rest }) := step_of_idle hb hh
  exact ⟨fun h => by rw [hs, receiveOp_of_lt (s := { s with host := rest }) h],
    fun h => by rw [hs, receiveOp_of_le (s := { s with host := rest }) h]⟩

end Sys2Proof.Machine

/-! Proofs: no step stops the machine (R76, R196, R210), what the host waits for and what it alone writes (R61, R73), and
its access to BUF and to the byte-addressed binding (R62, R65). -/

namespace Sys2Proof.Machine

/-! ### A step while a command executes -/

section
variable {s : State} {rest : List HostOp} (hb : s.busy = true)
include hb

/-- With no host operation pending the executing command takes a micro-step (R44). -/
theorem step_of_busy_alone (hh : s.host = []) : step s = microStep s := by
  simp [step, machineStep, hh, hb]

/-- A micro-step uses up the `wait` that stands for it. -/
theorem step_of_busy_wait (hh : s.host = .wait :: rest) : step s = microStep { s with host := rest } := by
  have hd : dropOp s = { s with host := rest } := by simp [dropOp, hh]
  simp [step, machineStep, hh, hb, hd]

/-- R73: behind a held operation the executing command takes a micro-step. -/
theorem step_of_held {op : HostOp} (hh : s.host = op :: rest) (hn : heldOp op = true) : step s = microStep s := by
  have hw : op ≠ .wait := fun e => nomatch e ▸ hn
  simp [step, machineStep, hh, hb, hn, hw]

end

/-! ### Every command completes (R196, R210) -/

/-- R210: where a current block lies inside the Waveform (R27) no command stops the machine. -/
theorem exec_completes (c : Instr) {s : State} (hin : s.bv = true → s.cur.toNat + s.n ≤ s.wlen.toNat) :
    ∃ t, exec c s = .next t := by
  cases c with
  | rewind => exact ⟨_, rfl⟩
  | extract => exact ⟨_, rfl⟩
  | window =>
    show ∃ t, execWindow s = .next t
    unfold execWindow
    split
    · rename_i hbv
      exact ⟨_, windowOp_runs s (hin hbv)⟩
    · exact ⟨_, rfl⟩
  | bitrev => exact ⟨_, rfl⟩
  | pass p =>
    show ∃ t, execPass p s = .next t
    unfold execPass
    split <;> exact ⟨_, rfl⟩
  | fft => exact ⟨_, rfl⟩
  | peak => exact ⟨_, rfl⟩
  | block =>
    show ∃ t, execBlock s = .next t
    unfold execBlock
    split
    · rename_i hbv
      obtain ⟨t, ht, -⟩ := pipelineOp_runs _ (extractOp_blockInside hin hbv)
      exact ⟨t, ht⟩
    · exact ⟨_, rfl⟩
  | run =>
    obtain ⟨t, ht, -⟩ := runLoop_completes (runFuel s) s (by unfold runFuel; omega) (Nat.succ_pos _)
    exact ⟨t, ht⟩

section
variable {s : State} (hin : s.bv = true → s.cur.toNat + s.n ≤ s.wlen.toNat)
include hin

theorem cmdWrite_completes (x : Word) : ∃ t, cmdWrite x s = .next t := by
  unfold cmdWrite
  split
  · exact ⟨_, rfl⟩
  · split
    · exact ⟨_, rfl⟩
    · exact exec_completes _ hin

theorem csrWrite_completes (k : Nat) (x : Word) : ∃ t, csrWrite k x s = .next t := by
  unfold csrWrite
  split
  · exact ⟨_, rfl⟩
  · exact cmdWrite_completes hin x
  · exact ⟨_, rfl⟩

/-- No host operation stops the machine: those that run a command are register writes. -/
theorem hostPerform_completes (op : HostOp) : ∃ t, hostPerform op s = .next t := by
  cases op with
  | writeCsr k x => exact csrWrite_completes hin k x
  | storeCsr32 w x =>
    obtain ⟨k, hk⟩ := csrStore32_eq_csrWrite w x s
    obtain ⟨t, ht⟩ := csrWrite_completes hin k x
    exact ⟨t, hk.trans ht⟩
  | storeCsr64 k x => exact csrWrite_completes hin k (x.setWidth 32)
  | writeWave | readWave | readCsr | writeBuf | readBuf | receive | reset | beginCmd | wait => exact ⟨_, rfl⟩

end

/-- R76: WINELEM reads inside the current block, so inside the WAVE space. -/
theorem microWindow_completes {s : State} {i : Nat} (hi : i < s.n) (hin : s.cur.toNat + s.n ≤ s.wlen.toNat) :
    ∃ t, microWindow i s = .next t := by
  have hidx : sampleIndex s i < 2 ^ 32 := by
    have hw := s.wlen.isLt
    unfold sampleIndex
    omega
  unfold microWindow
  rw [if_pos hidx]
  split <;> exact ⟨_, rfl⟩

/-- Of the micro-steps only WINELEM could stop, and inside a command its index is one of BUF (R43). -/
theorem State.Inv.microStep_completes {s : State} (h : s.Inv) (hb : s.busy = true) : ∃ t, microStep s = .next t := by
  unfold microStep
  cases hst : s.seq.stage with
  | window =>
    obtain ⟨c, -, hp⟩ := h.working hb
    obtain ⟨-, hbv, hi⟩ := (seqPositionOk_window hst).1 hp
    exact microWindow_completes hi (h.blockInside hbv)
  | idle | extract | bitrev | pass | peak => exact ⟨_, rfl⟩

/-- Settles O14: neither a micro-step nor a host operation stops the machine. -/
theorem machineNeverStops : Obligations.MachineNeverStops := by
  intro s hs
  have hrest (l : List HostOp) : State.Inv { s with host := l } := hs.withHostSide l s.reads s.taken
  have hperform (op : HostOp) (l : List HostOp) : ∃ t, hostPerform op { s with host := l } = .next t :=
    hostPerform_completes (hrest l).blockInside op
  cases hb : s.busy with
  | false =>
    cases hh : s.host with
    | nil => exact ⟨s, by simp [step, machineStep, hh, hb]⟩
    | cons op rest => exact step_of_idle hb hh ▸ hperform op rest
  | true =>
    cases hh : s.host with
    | nil => exact step_of_busy_alone hb hh ▸ hs.microStep_completes hb
    | cons op rest =>
      by_cases hw : op = .wait
      · subst hw
        exact step_of_busy_wait hb hh ▸ (hrest rest).microStep_completes hb
      · cases hn : heldOp op with
        | true => exact step_of_held hb hh hn ▸ hs.microStep_completes hb
        | false => exact step_of_not_held hh hn hw ▸ hperform op rest

/-! ### What the host waits for (R35, R73) -/

/-- R73: what is neither a read of STATUS nor a reset nor a `wait` is held. -/
theorem heldOp_of_ne {op : HostOp} (hr : op ≠ .readCsr 4) (hx : op ≠ .reset) (hw : op ≠ .wait) : heldOp op = true := by
  by_contra hn
  exact (eq_of_not_held (Bool.eq_false_iff.2 hn) hw).elim hr hx

/-- R36: bit 0 of STATUS is BUSY. -/
theorem statusWord_getLsbD_zero (s : State) : (statusWord s).getLsbD 0 = s.busy := by
  rw [BitVec.getLsbD, Nat.testBit_zero, statusWord_toNat]
  cases s.busy <;> simp <;> omega

/-- Settles O9: behind a held operation a step is a micro-step, which leaves the host's side, WAVE and WLEN alone; a read
of STATUS is performed. -/
theorem hostIsHeldWhileBusy : Obligations.HostIsHeldWhileBusy := by
  refine ⟨fun s t op rest hb hh hr hx hw ht => ?_, fun s rest hb hh => ?_⟩
  · have hk : WorkKeeps s t := microStep_workKeeps (step_of_held hb hh (heldOp_of_ne hr hx hw) ▸ ht)
    exact ⟨hk.hostSide.host, hk.hostSide.reads, hk.wave, hk.wlen⟩
  · exact ⟨step_of_not_held hh rfl nofun, (statusWord_getLsbD_zero s).trans hb⟩

/-! ### Who writes WAVE (R61) and the configuration (R37, R38) -/

theorem csrWrite_keeps {k : Nat} {x : Word} {s t : State} (ht : csrWrite k x s = .next t) :
    t.cfg = s.cfg ∧ t.wave = s.wave := by
  unfold csrWrite at ht
  split at ht
  · exact Host.Outcome.next.inj ht ▸ ⟨rfl, rfl⟩
  · have hk := cmdWrite_workKeeps ht
    exact ⟨hk.hostSide.cfg, hk.wave⟩
  · exact Host.Outcome.next.inj ht ▸ ⟨rfl, rfl⟩

theorem receiveOp_keeps (s : State) : (receiveOp s).cfg = s.cfg ∧ (receiveOp s).wave = s.wave := by
  unfold receiveOp
  split <;> exact ⟨rfl, rfl⟩

/-- R61: of the host's operations only H1 changes WAVE, and none changes the configuration. -/
theorem hostPerform_keeps {op : HostOp} {s t : State} (ht : hostPerform op s = .next t) :
    t.cfg = s.cfg ∧ ((∀ a h, op ≠ .writeWave a h) → t.wave = s.wave) := by
  suffices h : (∃ a h, op = .writeWave a h ∧ t = { s with wave := waveWrite s.wave a.toNat h }) ∨
      t.cfg = s.cfg ∧ t.wave = s.wave by
    obtain ⟨a, h, rfl, rfl⟩ | ⟨hc, hw⟩ := h
    · exact ⟨rfl, fun hne => absurd rfl (hne a h)⟩
    · exact ⟨hc, fun _ => hw⟩
  cases op with
  | writeWave a h => exact .inl ⟨a, h, rfl, (Host.Outcome.next.inj ht).symm⟩
  | writeCsr k x => exact .inr (csrWrite_keeps ht)
  | storeCsr32 w x =>
    obtain ⟨k, hk⟩ := csrStore32_eq_csrWrite w x s
    exact .inr (csrWrite_keeps (hk.symm.trans ht))
  | storeCsr64 k x => exact .inr (csrWrite_keeps ht)
  | receive => exact .inr (Host.Outcome.next.inj ht ▸ receiveOp_keeps s)
  | beginCmd x =>
    have hk := cmdBegin_workKeeps x s
    exact .inr (Host.Outcome.next.inj ht ▸ ⟨hk.hostSide.cfg, hk.wave⟩)
  | readWave | readCsr | writeBuf | readBuf | reset | wait =>
    exact .inr (Host.Outcome.next.inj ht ▸ ⟨rfl, rfl⟩)

/-- Settles O16: a micro-step leaves WAVE and the configuration alone, and only the host's H1 writes WAVE. -/
theorem onlyTheHostWritesWave : Obligations.OnlyTheHostWritesWave := by
  intro s t ht
  obtain rfl | ⟨-, l, hm⟩ | ⟨op, rest, hh, -, hp⟩ := step_cases ht
  · exact ⟨rfl, fun _ _ => rfl⟩
  · have hk := microStep_workKeeps hm
    exact ⟨hk.hostSide.cfg, fun _ a => congrArg (waveByte · a) hk.wave⟩
  · obtain ⟨hc, hw⟩ := hostPerform_keeps hp
    refine ⟨hc, fun hne a => congrArg (waveByte · a) (hw fun b h e => hne b h ?_)⟩
    rw [hh, e, List.head?_cons]

/-! ### BUF as the host sees it (R62) -/

/-- R62: beyond the last location of BUF a read returns 0. -/
theorem bufReadLoc_beyond {n m : Nat} (b : Buffer) (h : 2 * n ≤ m) : bufReadLoc n b m = 0 := if_neg (by omega)

/-- R62: beyond the last location of BUF a write is ignored. -/
theorem bufWriteLoc_beyond {n m : Nat} (b : Buffer) (v : F64) (h : 2 * n ≤ m) : bufWriteLoc n b m v = b :=
  if_neg (by omega)

@[simp] theorem length_bufWriteLoc (n : Nat) (b : Buffer) (m : Nat) (v : F64) :
    (bufWriteLoc n b m v).length = b.length := by
  unfold bufWriteLoc
  split <;> simp

section
variable {n m : Nat} {b : Buffer} (hl : b.length = n) (hm : m < 2 * n) (v : F64)
include hl hm

/-- R62: a location reads as what was last written to it. -/
theorem bufReadLoc_bufWriteLoc_same : bufReadLoc n (bufWriteLoc n b m v) m = v := by
  have hi : locEntry m < b.length := by unfold locEntry; omega
  simp only [bufReadLoc, bufWriteLoc, if_pos hm, bufRead_bufWrite_same _ _ _ hi]
  cases locIsRe m <;> rfl

/-- R62: every other location, the other part of the same entry too, reads as before. -/
theorem bufReadLoc_bufWriteLoc_other {k : Nat} (hk : k ≠ m) :
    bufReadLoc n (bufWriteLoc n b m v) k = bufReadLoc n b k := by
  have hi : locEntry m < b.length := by unfold locEntry; omega
  simp only [bufReadLoc, bufWriteLoc, if_pos hm]
  by_cases he : locEntry k = locEntry m
  · have hpart : locIsRe k = !locIsRe m := by
      unfold locEntry at he
      simp only [locIsRe, ← decide_not, decide_eq_decide]
      omega
    rw [he, hpart, bufRead_bufWrite_same _ _ _ hi]
    cases locIsRe m <;> rfl
  · rw [bufRead_bufWrite_other _ _ _ he]

end

/-- R62: the part of an entry that a location is. -/
theorem bufReadLoc_eq (n : Nat) (b : Buffer) (m : Nat) :
    bufReadLoc n b m =
      if 2 * n ≤ m then 0 else if m % 2 = 0 then (bufRead b (m / 2)).re else (bufRead b (m / 2)).im := by
  by_cases h : 2 * n ≤ m
  · rw [if_pos h, bufReadLoc_beyond b h]
  · simp [bufReadLoc, locIsRe, locEntry, h, Nat.lt_of_not_le h]

/-- Settles O42: the laws of `bufWriteLoc` in range and beyond, and what `bufReadLoc` returns. -/
theorem hostBufferAccess : Obligations.HostBufferAccess := by
  refine ⟨fun s m x rest hb hh hl => ?_, fun s m rest hb hh => ?_⟩
  · refine ⟨bufWriteLoc s.n s.buf m x, step_of_idle hb hh, (length_bufWriteLoc ..).trans hl,
      fun hm => bufReadLoc_bufWriteLoc_same hl hm x, fun k hk => ?_⟩
    by_cases hm : m < 2 * s.n
    · exact bufReadLoc_bufWriteLoc_other hl hm x (hk.resolve_right (Nat.not_le.2 hm))
    · rw [bufWriteLoc_beyond s.buf x (Nat.le_of_not_lt hm)]
  · rw [← bufReadLoc_eq]
    exact step_of_idle hb hh

/-! ### The byte-addressed binding (R65) -/

/-- Byte `8k + j` of a space of eight-byte entries, least significant first, is byte `j` of entry `k`. -/
theorem entryByte_toNat (entry : Nat → BitVec 64) (k : Nat) {j : Nat} (hj : j < 8) :
    ((entry ((8 * k + j) / 8)).extractLsb' (8 * ((8 * k + j) % 8)) 8).toNat =
      (entry k).toNat / 2 ^ (8 * j) % 256 := by
  rw [show (8 * k + j) / 8 = k by omega, show (8 * k + j) % 8 = j by omega, BitVec.extractLsb'_toNat,
    Nat.shiftRight_eq_div_pow]

/-- R65: byte `j` of a register holds its bits `8j + 7 : 8j`. -/
theorem csrByte_toNat (s : State) (k : Nat) {j : Nat} (hj : j < 8) :
    (csrByte s (8 * k + j)).toNat = (csrRead s k).toNat / 2 ^ (8 * j) % 256 := entryByte_toNat (csrRead s) k hj

/-- R65: so does byte `j` of a BUF location. -/
theorem bufByte_toNat (s : State) (k : Nat) {j : Nat} (hj : j < 8) :
    (bufByte s (8 * k + j)).toNat = (bufReadLoc s.n s.buf k).toNat / 2 ^ (8 * j) % 256 :=
  entryByte_toNat (bufReadLoc s.n s.buf) k hj

/-- R40: every register but PKMAG has 32 bits. -/
theorem csrRead_lt (s : State) {k : Nat} (hk : k ≠ 9) : (csrRead s k).toNat < 2 ^ 32 := by
  have hext (x : Word) : (x.setWidth 64).toNat < 2 ^ 32 :=
    (BitVec.toNat_setWidth_of_le (by decide)).trans_lt x.isLt
  have hb := Config.bounds s.cfg
  unfold csrRead
  split
  case h_1 | h_2 => exact (Nat.mod_le _ _).trans_lt (by omega)
  case h_4 | h_12 => decide
  case h_10 => exact absurd rfl hk
  all_goals exact hext _

/-- R65: the high four bytes of a 32-bit register read as zero. -/
theorem csrByte_high (s : State) {k j : Nat} (hj : j < 8) (hk : k ≠ 9) (h4 : 4 ≤ j) : csrByte s (8 * k + j) = 0 := by
  have hlt : (csrRead s k).toNat < 2 ^ (8 * j) :=
    (csrRead_lt s hk).trans_le (Nat.pow_le_pow_right (by decide) (by omega))
  exact BitVec.eq_of_toNat_eq (by simp [csrByte_toNat s k hj, Nat.div_eq_of_lt hlt])

/-- R65: a 64-bit store to a register writes the low half. -/
theorem hostPerform_storeCsr64 (k : Nat) (x : BitVec 64) (s : State) :
    hostPerform (.storeCsr64 k x) s = hostPerform (.writeCsr k (BitVec.ofNat 32 (x.toNat % 2 ^ 32))) s := by
  have hx : x.setWidth 32 = BitVec.ofNat 32 (x.toNat % 2 ^ 32) := BitVec.eq_of_toNat_eq (by simp)
  rw [← hx]
  rfl

/-- R65: a 32-bit store to the low half of a register writes it. -/
theorem hostPerform_storeCsr32_low (k : Nat) (v : Word) (s : State) :
    hostPerform (.storeCsr32 (2 * k) v) s = hostPerform (.writeCsr k v) s := by
  simp [hostPerform, csrStore32]

/-- R65: a 32-bit store to the high half of a register is ignored. -/
theorem hostPerform_storeCsr32_high (k : Nat) (v : Word) (s : State) :
    hostPerform (.storeCsr32 (2 * k + 1) v) s = .next s := if_neg (by omega)

/-- R65: sample `a` of WAVE, low byte first. -/
theorem waveRead_toNat (m : Memory) (a : Nat) :
    (waveRead m a).toNat = (waveByte m (2 * a)).toNat + 256 * (waveByte m (2 * a + 1)).toNat := by
  rw [waveRead, toNat_append_add]
  omega

/-- Settles O45: the bytes of each space, and each store as the register write it is. -/
theorem bytesAreLittleEndian : Obligations.BytesAreLittleEndian := by
  refine ⟨fun s k j hj => ⟨csrByte_toNat s k hj, csrByte_high s hj, bufByte_toNat s k hj⟩,
    fun s k x v rest hb => ?_, waveRead_toNat⟩
  have hstep (op : HostOp) : step { s with host := op :: rest } = hostPerform op { s with host := rest } :=
    step_of_idle (s := { s with host := op :: rest }) hb rfl
  simp only [hstep]
  exact ⟨hostPerform_storeCsr64 k x _, hostPerform_storeCsr32_low k v _, hostPerform_storeCsr32_high k v _⟩

end Sys2Proof.Machine

/-! Proofs: the decoder and the encoder (R90 to R96), and the commands that are sequences of other commands (R97). -/

namespace Sys2Proof

/-! ### The fields of a word as numbers (R90) -/

theorem zeroField_toNat (x : Word) : (zeroField x).toNat = x.toNat / 65536 := by
  have hx := x.isLt
  simp only [zeroField, BitVec.extractLsb'_toNat, Nat.shiftRight_eq_div_pow]
  omega

theorem argField_toNat (x : Word) : (argField x).toNat = x.toNat / 256 % 256 := by
  simp only [argField, BitVec.extractLsb'_toNat, Nat.shiftRight_eq_div_pow, Nat.reducePow]

theorem opcField_toNat (x : Word) : (opcField x).toNat = x.toNat % 256 := by
  simp only [opcField, BitVec.extractLsb'_toNat, Nat.shiftRight_zero, Nat.reducePow]

theorem argField_eq_ofNat (x : Word) : argField x = BitVec.ofNat 8 (x.toNat / 256 % 256) := by
  rw [← argField_toNat, BitVec.ofNat_toNat, BitVec.setWidth_eq]

/-! ### Decoding an encoding (R91, R93, R96) -/

/-- A command that the map of R91 knows, and that has no operand, is decoded from its encoding. -/
theorem decode_encode_of_decodeOpc (c : Config) {i : Instr} (hs : Laws.Encoding.Statement i)
    (ha : Laws.Encoding.operand i = 0) (hd : decodeOpc (Laws.Encoding.opcode i) = .ok i) :
    decode c (encode i) = .ok i := by
  obtain ⟨so, sa, sz⟩ := hs
  have hopc : opcField (encode i) ≠ 0x05 := fun h => by
    rw [← so, h] at hd
    cases hd
  have harg : argField (encode i) = 0 := BitVec.eq_of_toNat_eq (sa.trans ha)
  simp only [decode, sz, hopc, harg, so, hd, ne_eq, not_true_eq_false, if_false]

/-- PASS with a number in range is decoded from its encoding. -/
theorem decode_encode_pass {c : Config} {p : BitVec 8} (hp : (Instr.pass p).wellFormed c = true) :
    decode c (encode (.pass p)) = .ok (.pass p) := by
  obtain ⟨so, sa, sz⟩ := Laws.Encoding.pass p
  have hopc : opcField (encode (.pass p)) = 0x05 := BitVec.eq_of_toNat_eq so
  have harg : argField (encode (.pass p)) = p := BitVec.eq_of_toNat_eq sa
  have hr : 1 ≤ p.toNat ∧ p.toNat ≤ c.lgn := by simpa [Instr.wellFormed] using hp
  simp only [decode, sz, hopc, harg, hr, ne_eq, not_true_eq_false, if_false, if_true, and_self]

/-- Settles O1: PASS by its range, every other command by the map of R91. -/
theorem decodeOfEncode : Obligations.DecodeOfEncode := by
  intro c i hi
  cases i with
  | pass p => exact decode_encode_pass hi
  | rewind => exact decode_encode_of_decodeOpc c Laws.Encoding.rewind rfl rfl
  | extract => exact decode_encode_of_decodeOpc c Laws.Encoding.extract rfl rfl
  | window => exact decode_encode_of_decodeOpc c Laws.Encoding.window rfl rfl
  | bitrev => exact decode_encode_of_decodeOpc c Laws.Encoding.bitrev rfl rfl
  | fft => exact decode_encode_of_decodeOpc c Laws.Encoding.fft rfl rfl
  | peak => exact decode_encode_of_decodeOpc c Laws.Encoding.peak rfl rfl
  | block => exact decode_encode_of_decodeOpc c Laws.Encoding.block rfl rfl
  | run => exact decode_encode_of_decodeOpc c Laws.Encoding.run rfl rfl

/-- Settles O2: field by field, a decoded word agrees with the encoding of its command. -/
theorem encodeOfDecode : Obligations.EncodeOfDecode := fun _ _ _ => decode_eq_ok

/-! ### R93 in numbers -/

/-- The map of R91 as a chain of tests. -/
theorem decodeOpc_toOption (n : Nat) :
    (decodeOpc n).toOption =
      if n = 0x01 then some .rewind
      else if n = 0x02 then some .extract
      else if n = 0x03 then some .window
      else if n = 0x04 then some .bitrev
      else if n = 0x06 then some .fft
      else if n = 0x07 then some .peak
      else if n = 0x08 then some .block
      else if n = 0x09 then some .run
      else none := by
  unfold decodeOpc
  split
  case h_9 => simp_all only [imp_false, if_false, Except.toOption]
  all_goals rfl

/-- Settles O3: each test of `decode` on a field is the rule's test on that field's number. -/
theorem decodeFollowsItsRule : Obligations.DecodeFollowsItsRule := by
  intro c x
  have hz : zeroField x ≠ 0 ↔ x.toNat / 65536 ≠ 0 := by
    rw [← zeroField_toNat]
    exact not_congr BitVec.toNat_inj.symm
  have ho : opcField x = 0x05 ↔ x.toNat % 256 = 0x05 := by
    rw [← opcField_toNat]
    exact BitVec.toNat_inj.symm
  have ha : argField x ≠ 0 ↔ x.toNat / 256 % 256 ≠ 0 := by
    rw [← argField_toNat]
    exact not_congr BitVec.toNat_inj.symm
  simp only [decode, hz, ho, ha, argField_toNat, opcField_toNat, apply_ite Except.toOption, decodeOpc_toOption,
    ← argField_eq_ofNat]
  rfl

end Sys2Proof

namespace Sys2Proof.Machine

/-! ### PASS (R168) -/

/-- The range of R92, as the meaning of PASS tests it. -/
theorem wellFormed_pass_iff {c : Config} {p : BitVec 8} :
    (Instr.pass p).wellFormed c = true ↔ 1 ≤ passNumber p ∧ passNumber p ≤ c.lgn := by
  simp [Instr.wellFormed, passNumber]

theorem exec_pass_of_wellFormed {p : BitVec 8} {s : State} (h : (Instr.pass p).wellFormed s.cfg = true) :
    exec (.pass p) s = .next (passOp (passNumber p) s) :=
  if_pos (wellFormed_pass_iff.1 h)

theorem exec_pass_of_not_wellFormed {p : BitVec 8} {s : State} (h : (Instr.pass p).wellFormed s.cfg = false) :
    exec (.pass p) s = .next (raiseFault causeIllegalCmd (encode (.pass p)) s) :=
  if_neg fun hp => Bool.false_ne_true (h.symm.trans (wellFormed_pass_iff.2 hp))

/-- R96: the word of PASS as a number. -/
theorem encode_pass (p : BitVec 8) : encode (.pass p) = BitVec.ofNat 32 (5 + 256 * p.toNat) := by
  have hp := p.isLt
  refine BitVec.eq_of_toNat_eq ?_
  simp only [encode, toNat_append_add, BitVec.toNat_ofNat]
  omega

/-- R215: between commands, taking a fault changes the fault record only. -/
theorem raiseFault_of_rest {s : State} (hb : s.busy = false) (hq : s.seq = Seq.idle) (k : BitVec 4) (x : Word) :
    raiseFault k x s = { s with fault := true, cause := k, finfo := x } := by
  rw [raiseFault, ← hb, ← hq]

/-- Settles O27: PASS out of range takes ILLEGAL_CMD, with its own word in FINFO. -/
theorem passOutOfRangeFaults : Obligations.PassOutOfRangeFaults := by
  intro p s hp hb hq
  rw [exec_pass_of_not_wellFormed hp, raiseFault_of_rest hb hq, encode_pass]
  rfl

/-! ### FFT as BITREV and the passes (R169) -/

/-- PASS `p` as a command, where the configuration has that pass (a number up to `LGN` fits ARG). -/
theorem exec_pass_ofNat {p : Nat} {s : State} (h1 : 1 ≤ p) (hp : p ≤ s.cfg.lgn) :
    exec (.pass (BitVec.ofNat 8 p)) s = .next (passOp p s) := by
  have hl := lgn_le s.cfg
  have hn : passNumber (BitVec.ofNat 8 p) = p := by
    rw [passNumber, BitVec.toNat_ofNat, Nat.mod_eq_of_lt (by omega)]
  rw [exec_pass_of_wellFormed (wellFormed_pass_iff.2 (by rw [hn]; exact ⟨h1, hp⟩)), hn]

/-- BITREV and the first `k` passes, one command after the other, are the loops of R169. -/
theorem execPassesUpTo_eq {k : Nat} {s : State} (hk : k ≤ s.cfg.lgn) :
    execPassesUpTo k s = .next (loopUp (fun j => passOp (j + 1)) k (bitrevOp s)) := by
  induction k with
  | zero => rfl
  | succ k ih =>
    have hc := (bitrevOp_control s).trans (loopUp_control _ (fun j => passOp_control (j + 1)) k _)
    rw [execPassesUpTo, ih (by omega), andThen_next,
      exec_pass_ofNat (Nat.succ_pos k) (by rw [hc.hostSide.cfg]; exact hk), loopUp_succ]

/-- Settles O28: FFT is those loops up to pass `LGN`. -/
theorem fftIsBitrevThenPasses : Obligations.FftIsBitrevThenPasses := fun _ => (execPassesUpTo_eq le_rfl).symm

/-! ### BLOCK as EXTRACT and a block's pipeline (R194) -/

theorem exec_window_of_bv {s : State} (h : s.bv = true) : exec .window s = windowOp s := if_pos h

theorem exec_block_of_bv {s : State} (h : (extractOp s).bv = true) : exec .block s = pipelineOp (extractOp s) :=
  if_pos h

theorem exec_block_of_not_bv {s : State} (h : (extractOp s).bv = false) : exec .block s = .next (extractOp s) :=
  if_neg (by simp [h])

/-- With a current block, WINDOW, FFT and PEAK as commands are the pipeline. -/
theorem exec_window_fft_peak {s : State} (h : s.bv = true) :
    (andThen (exec .window s) fun u => andThen (exec .fft u) (exec .peak)) = pipelineOp s := by
  rw [exec_window_of_bv h]
  rfl

/-- Settles O32: BV after EXTRACT decides between the pipeline and the end of the command. -/
theorem blockIsItsExpansion : Obligations.BlockIsItsExpansion := by
  intro s
  rw [show exec .extract s = .next (extractOp s) from rfl, andThen_next]
  cases hb : (extractOp s).bv with
  | true => rw [if_pos rfl, exec_window_fft_peak hb, exec_block_of_bv hb]
  | false => rw [if_neg Bool.false_ne_true, exec_block_of_not_bv hb]

/-! ### RUN as repeated BLOCK (R195) -/

/-- Under R29's invariant EXTRACT leaves exactly one of BV and EXH set, so RUN's two exit tests agree. -/
theorem extractOp_exh {s : State} (h : ¬(s.bv = true ∧ s.exh = true)) :
    (extractOp s).exh = !(extractOp s).bv := by
  obtain ⟨he, hs⟩ | ⟨he, -, hs⟩ | ⟨-, -, hs⟩ := extractOp_cases s
  · have hb : s.bv = false := by simpa [he] using h
    rw [hs, he, hb]
    rfl
  · rw [hs]
    exact he
  · rw [hs]
    rfl

/-- A RUN that finds a block does BLOCK's work and goes on as a RUN from there: the fuel left over is enough (R196). -/
theorem exec_run_goes_on {s t : State} (h : runContinues (extractOp s) = true)
    (ht : pipelineOp (extractOp s) = .next t) : exec .run s = exec .run t ∧ t.exh = false := by
  obtain ⟨u, hu, -, hleft, hwlen, -, -, -, hexh⟩ := runLoop_turn h
  obtain rfl := Host.Outcome.next.inj (hu.symm.trans ht)
  obtain ⟨-, hfit, -⟩ := runContinues_extractOp h
  have hn := n_pos s
  have hstride := (Config.bounds s.cfg).2.2.1
  refine ⟨?_, hexh⟩
  calc exec .run s = runLoop (s.wlen.toNat + 1) s := rfl
    _ = runLoop s.wlen.toNat u := runLoop_goes_on h ht _
    _ = exec .run u := runLoop_eq_execRun u _ (by rw [hwlen, hleft]; omega) (by omega)

/-- Settles O35: with a block RUN goes on after BLOCK's work, without one both end with EXTRACT's state. -/
theorem runRepeatsBlock : Obligations.RunRepeatsBlock := by
  intro s t hinv ht
  have hx := extractOp_exh hinv
  cases hb : (extractOp s).bv with
  | true =>
    have hc : runContinues (extractOp s) = true := by simp [runContinues, hx, hb]
    obtain ⟨hrun, hexh⟩ := exec_run_goes_on hc ((exec_block_of_bv hb).symm.trans ht)
    rw [hrun, hexh, if_neg Bool.false_ne_true]
  | false =>
    obtain rfl := Host.Outcome.next.inj ((exec_block_of_not_bv hb).symm.trans ht)
    rw [hx, hb, Bool.not_false, if_pos rfl]
    exact runLoop_stops (by simp [runContinues, hb]) _

end Sys2Proof.Machine

/-! Proofs: index arithmetic (R127, R128). -/

namespace Sys2Proof

/-! ### Bit reversal (R127) -/

theorem rev_succ (i L : Nat) : rev i (L + 1) = i % 2 * 2 ^ L + rev (i / 2) L := rfl

theorem rev_lt (i L : Nat) : rev i L < 2 ^ L := by
  induction L generalizing i with
  | zero => exact Nat.one_pos
  | succ L ih =>
    have h : i % 2 * 2 ^ L ≤ 1 * 2 ^ L := Nat.mul_le_mul_right _ (by omega)
    have hi := ih (i / 2)
    rw [rev_succ, Nat.pow_succ]
    omega

/-- R127's sum: bit `b` of the number is digit `L - 1 - b` of its reversal. -/
theorem rev_eq_sum (i L : Nat) : rev i L = ((List.range L).map fun b => i / 2 ^ b % 2 * 2 ^ (L - 1 - b)).sum := by
  induction L generalizing i with
  | zero => rfl
  | succ L ih =>
    have hd : ∀ b, i / 2 / 2 ^ b % 2 * 2 ^ (L - 1 - b) = i / 2 ^ (b + 1) % 2 * 2 ^ (L - (b + 1)) := fun b => by
      rw [Nat.div_div_eq_div_mul, Nat.pow_succ', Nat.sub_sub, Nat.add_comm 1 b]
    rw [rev_succ, ih, List.range_succ_eq_map]
    simp only [List.map_cons, List.map_map, List.sum_cons, Function.comp_def, hd, Nat.succ_eq_add_one,
      Nat.add_sub_cancel, Nat.pow_zero, Nat.div_one, Nat.sub_zero]

/-- A digit put on top of `L` others becomes the lowest of the reversal. -/
theorem rev_add_top {b r L : Nat} (hb : b < 2) (hr : r < 2 ^ L) : rev (b * 2 ^ L + r) (L + 1) = b + 2 * rev r L := by
  induction L generalizing r with
  | zero =>
    obtain rfl : r = 0 := by omega
    simp [rev, Nat.mod_eq_of_lt hb]
  | succ L ih =>
    have hr' : r / 2 < 2 ^ L := by omega
    have htop : b * 2 ^ (L + 1) = 2 * (b * 2 ^ L) := by ring
    have hdiv : (b * 2 ^ (L + 1) + r) / 2 = b * 2 ^ L + r / 2 := by omega
    have hmod : (b * 2 ^ (L + 1) + r) % 2 = r % 2 := by omega
    rw [rev_succ, hdiv, hmod, ih hr', rev_succ, Nat.pow_succ]
    ring

theorem rev_rev {i L : Nat} (hi : i < 2 ^ L) : rev (rev i L) L = i := by
  induction L generalizing i with
  | zero =>
    obtain rfl : i = 0 := by omega
    rfl
  | succ L ih =>
    rw [rev_succ i, rev_add_top (by omega) (rev_lt _ _), ih (by omega)]
    omega

theorem rev_zero (L : Nat) : rev 0 L = 0 := by
  induction L with
  | zero => rfl
  | succ L ih => rw [rev_succ, Nat.zero_div, ih, Nat.zero_mod, Nat.zero_mul]

theorem rev_ones (L : Nat) : rev (2 ^ L - 1) L = 2 ^ L - 1 := by
  induction L with
  | zero => rfl
  | succ L ih =>
    have hp := Nat.two_pow_pos L
    have hdiv : (2 ^ (L + 1) - 1) / 2 = 2 ^ L - 1 := by omega
    have hmod : (2 ^ (L + 1) - 1) % 2 = 1 := by omega
    rw [rev_succ, hdiv, hmod, ih]
    omega

theorem rev_one {L : Nat} (hL : 1 ≤ L) : rev 1 L = 2 ^ (L - 1) := by
  obtain ⟨L, rfl⟩ := Nat.exists_eq_add_of_le' hL
  rw [rev_succ, show 1 / 2 = 0 from rfl, rev_zero]
  simp

/-- Settles O46: the digit sum, the range and the involution, from which injectivity follows. -/
theorem revFacts : Obligations.RevFacts := by
  refine ⟨fun L i hi => ⟨rev_eq_sum i L, rev_lt i L, rev_rev hi⟩, fun L i j hi hj h => ?_,
    fun L => ⟨rev_zero L, rev_ones L, rev_one⟩⟩
  rw [← rev_rev hi, h, rev_rev hj]

/-! ### `lg` (R128) -/

/-- The count ends at a sufficient exponent if its fuel reaches one. -/
theorem le_two_pow_lgFrom {fuel n L : Nat} (h : n ≤ 2 ^ (L + fuel)) : n ≤ 2 ^ lgFrom fuel n L := by
  induction fuel generalizing L with
  | zero => exact h
  | succ fuel ih =>
    rw [lgFrom]
    split
    · assumption
    · exact ih (by rwa [Nat.add_right_comm])

/-- The count goes past no sufficient exponent. -/
theorem lgFrom_le {fuel n L M : Nat} (hLM : L ≤ M) (h : n ≤ 2 ^ M) : lgFrom fuel n L ≤ M := by
  induction fuel generalizing L with
  | zero => exact hLM
  | succ fuel ih =>
    rw [lgFrom]
    split
    · exact hLM
    · next hn =>
      have hne : L ≠ M := fun he => hn (he ▸ h)
      exact ih (by omega)

/-- Settles O47: `lg` is least by the two facts on the count; `BLOCK_SIZE` is the power of two. -/
theorem lgIsLeast : Obligations.LgIsLeast := by
  refine ⟨fun n _ => ⟨le_two_pow_lgFrom ?_, fun L => lgFrom_le (Nat.zero_le L)⟩, by decide +kernel,
    fun c => ⟨Machine.two_pow_lgn c, Machine.lgn_pos c, Machine.lgn_le c⟩⟩
  rw [Nat.zero_add]
  exact Nat.lt_two_pow_self.le

end Sys2Proof

/-! Proofs: binary64 data as integers and one rounding (R110, R113). Bits 62:0 of a datum count the magnitudes in rising
order, so a rounding is fixed by the midpoints between neighbouring magnitudes: `RoundsToMag`. -/

namespace Sys2Proof

/-! ### The magnitudes in order (R110) -/

/-- `units` as a function of bits 62:0. -/
def magUnits (m : Nat) : Nat :=
  if m / 2 ^ 52 = 0 then m % 2 ^ 52 else (2 ^ 52 + m % 2 ^ 52) * 2 ^ (m / 2 ^ 52 - 1)

theorem units_eq_magUnits (a : F64) : units a = magUnits (magBits a) := rfl

/-- A significand and an exponent, put together as `roundMag` does. The significand may be `2^53`. -/
theorem magUnits_scaled {q k : Nat} (hq : q ≤ 2 ^ 53) (hk : k = 0 ∨ 2 ^ 52 ≤ q) :
    magUnits (k * 2 ^ 52 + q) = q * 2 ^ k := by
  unfold magUnits
  obtain hlt | rfl | hmid : q < 2 ^ 52 ∨ q = 2 ^ 53 ∨ (2 ^ 52 ≤ q ∧ q < 2 ^ 53) := by omega
  · obtain rfl : k = 0 := by omega
    rw [if_pos (by omega)]
    omega
  · rw [if_neg (by omega), show (k * 2 ^ 52 + 2 ^ 53) / 2 ^ 52 - 1 = k + 1 by omega,
      show (k * 2 ^ 52 + 2 ^ 53) % 2 ^ 52 = 0 by omega, pow_succ 2 k]
    ring
  · rw [if_neg (by omega), show (k * 2 ^ 52 + q) / 2 ^ 52 - 1 = k by omega,
      show 2 ^ 52 + (k * 2 ^ 52 + q) % 2 ^ 52 = q by omega]

/-- Every magnitude has such a form, with a significand below `2^53`. -/
theorem exists_scaled (m : Nat) : ∃ q k, q < 2 ^ 53 ∧ (k = 0 ∨ 2 ^ 52 ≤ q) ∧ m = k * 2 ^ 52 + q :=
  ⟨m - (m / 2 ^ 52 - 1) * 2 ^ 52, m / 2 ^ 52 - 1, by omega, by omega, by omega⟩

theorem magUnits_strictMono : StrictMono magUnits := by
  refine strictMono_nat_of_lt_succ fun m => ?_
  obtain ⟨q, k, hq, hk, rfl⟩ := exists_scaled m
  rw [magUnits_scaled hq.le hk, Nat.add_assoc, magUnits_scaled hq (by omega)]
  exact Nat.mul_lt_mul_of_pos_right q.lt_succ_self (Nat.two_pow_pos k)

@[simp] theorem magUnits_zero : magUnits 0 = 0 := rfl

/-- Twice the midpoint between a magnitude and the next. -/
def midpoint2 (m : Nat) : Nat := magUnits m + magUnits (m + 1)

theorem midpoint2_strictMono : StrictMono midpoint2 := fun _ _ h =>
  Nat.add_lt_add (magUnits_strictMono h) (magUnits_strictMono (Nat.succ_lt_succ h))

theorem midpoint2_scaled {q k : Nat} (hq : q < 2 ^ 53) (hk : k = 0 ∨ 2 ^ 52 ≤ q) :
    midpoint2 (k * 2 ^ 52 + q) = (2 * q + 1) * 2 ^ k := by
  rw [midpoint2, magUnits_scaled hq.le hk, Nat.add_assoc, magUnits_scaled (q := q + 1) hq (by omega)]
  ring

/-- Beside the significand `2^53` the step to the next magnitude is twice as long. -/
theorem le_midpoint2_scaled {q k : Nat} (hq : q ≤ 2 ^ 53) (hk : k = 0 ∨ 2 ^ 52 ≤ q) :
    (2 * q + 1) * 2 ^ k ≤ midpoint2 (k * 2 ^ 52 + q) := by
  obtain hlt | rfl := hq.lt_or_eq
  · exact (midpoint2_scaled hlt hk).ge
  · have h := midpoint2_scaled (q := 2 ^ 52) (k := k + 1) (by norm_num) (.inr le_rfl)
    rw [show k * 2 ^ 52 + 2 ^ 53 = (k + 1) * 2 ^ 52 + 2 ^ 52 by ring, h, pow_succ 2 k]
    have := Nat.two_pow_pos k
    omega

/-! ### Rounding by midpoints (R113) -/

/-- The real `X >= 0` units rounds up at least to magnitude `m`: it is past the midpoint below `m`, ties to even. -/
def ReachesMag (X : ℝ) (m : Nat) : Prop :=
  ∀ n, n + 1 = m → (midpoint2 n : ℝ) < 2 * X ∨ ((midpoint2 n : ℝ) = 2 * X ∧ m % 2 = 0)

/-- The real `X` units rounds down at least to magnitude `m`. -/
def StaysAtMag (X : ℝ) (m : Nat) : Prop :=
  m < infMag → 2 * X < midpoint2 m ∨ (2 * X = midpoint2 m ∧ m % 2 = 0)

/-- Bits 62:0 of the real `X >= 0` units rounded once; past the last midpoint they are those of an infinity. -/
structure RoundsToMag (X : ℝ) (m : Nat) : Prop where
  le_infMag : m ≤ infMag
  reaches : ReachesMag X m
  stays : StaysAtMag X m

theorem ReachesMag.midpoint2_le {X : ℝ} {n : Nat} (h : ReachesMag X (n + 1)) : (midpoint2 n : ℝ) ≤ 2 * X :=
  (h n rfl).elim le_of_lt fun h => h.1.le

theorem StaysAtMag.le_midpoint2 {X : ℝ} {m : Nat} (h : StaysAtMag X m) (hm : m < infMag) : 2 * X ≤ midpoint2 m :=
  (h hm).elim le_of_lt fun h => h.1.le

theorem ReachesMag.mono {X Y : ℝ} {m : Nat} (hXY : X ≤ Y) (h : ReachesMag X m) : ReachesMag Y m := by
  intro n hn
  obtain h | ⟨h, he⟩ := h n hn
  · exact .inl (by linarith)
  · obtain hlt | rfl := hXY.lt_or_eq
    · exact .inl (by linarith)
    · exact .inr ⟨h, he⟩

theorem StaysAtMag.mono {X Y : ℝ} {m : Nat} (hXY : X ≤ Y) (h : StaysAtMag Y m) : StaysAtMag X m := by
  intro hm
  obtain h | ⟨h, he⟩ := h hm
  · exact .inl (by linarith)
  · obtain hlt | rfl := hXY.lt_or_eq
    · exact .inl (by linarith)
    · exact .inr ⟨h, he⟩

/-- A number that rounds down to `n` at least is below one that rounds up beyond `n`. -/
theorem le_of_reaches_of_stays {X Y : ℝ} {m n : Nat} (hXY : X ≤ Y) (hm : m ≤ infMag) (hX : ReachesMag X m)
    (hY : StaysAtMag Y n) : m ≤ n := by
  by_contra hlt
  obtain ⟨p, rfl⟩ : ∃ p, m = p + 1 := ⟨m - 1, by omega⟩
  have hmid : (midpoint2 n : ℝ) ≤ midpoint2 p := by
    exact_mod_cast midpoint2_strictMono.monotone (show n ≤ p by omega)
  obtain h | ⟨h, he⟩ := hX p rfl
  · linarith [hY.le_midpoint2 (by omega)]
  · obtain h' | ⟨h', he'⟩ := hY (by omega)
    · linarith
    · have heq : midpoint2 p = midpoint2 n := by
        exact_mod_cast le_antisymm (by linarith : (midpoint2 p : ℝ) ≤ midpoint2 n) hmid
      have := midpoint2_strictMono.injective heq
      omega

theorem RoundsToMag.mono {X Y : ℝ} {m n : Nat} (hXY : X ≤ Y) (hX : RoundsToMag X m) (hY : RoundsToMag Y n) : m ≤ n :=
  le_of_reaches_of_stays hXY hX.le_infMag hX.reaches hY.stays

theorem RoundsToMag.unique {X : ℝ} {m n : Nat} (hm : RoundsToMag X m) (hn : RoundsToMag X n) : m = n :=
  le_antisymm (hm.mono le_rfl hn) (hn.mono le_rfl hm)

/-- What lies between two numbers that round to one magnitude rounds to it. -/
theorem RoundsToMag.between {X Y Z : ℝ} {m : Nat} (hXY : X ≤ Y) (hYZ : Y ≤ Z) (hX : RoundsToMag X m)
    (hZ : RoundsToMag Z m) : RoundsToMag Y m :=
  ⟨hX.le_infMag, hX.reaches.mono hXY, hZ.stays.mono hYZ⟩

theorem reachesMag_of_magUnits_le {X : ℝ} {m : Nat} (h : (magUnits m : ℝ) ≤ X) : ReachesMag X m := by
  rintro n rfl
  have hlt : (magUnits n : ℝ) < magUnits (n + 1) := by exact_mod_cast magUnits_strictMono n.lt_succ_self
  left
  rw [midpoint2]
  push_cast
  linarith

theorem staysAtMag_of_le_magUnits {X : ℝ} {m : Nat} (h : X ≤ magUnits m) : StaysAtMag X m := by
  intro _
  have hlt : (magUnits m : ℝ) < magUnits (m + 1) := by exact_mod_cast magUnits_strictMono m.lt_succ_self
  left
  rw [midpoint2]
  push_cast
  linarith

/-- A magnitude rounds to itself. -/
theorem roundsToMag_magUnits {m : Nat} (hm : m ≤ infMag) : RoundsToMag (magUnits m) m :=
  ⟨hm, reachesMag_of_magUnits_le le_rfl, staysAtMag_of_le_magUnits le_rfl⟩

/-- Beyond the largest magnitude nothing but an infinity is reached. -/
theorem ReachesMag.min_infMag {X : ℝ} {m : Nat} (h : ReachesMag X m) : ReachesMag X (min m infMag) := by
  rcases le_or_gt m infMag with hm | hm
  · rwa [min_eq_left hm]
  · rw [min_eq_right hm.le]
    intro n hn
    obtain ⟨p, rfl⟩ : ∃ p, m = p + 1 := ⟨m - 1, by omega⟩
    have hlt : (midpoint2 n : ℝ) < midpoint2 p := by exact_mod_cast midpoint2_strictMono (by omega)
    exact .inl (hlt.trans_le h.midpoint2_le)

/-- The integer `q` nearest to `X / 2^k`, ties to even, is the rounded significand, if `k` is the exponent of `X`. -/
theorem roundsToMag_scaled {X : ℝ} {q k : Nat} (hlow : k = 0 ∨ (2 : ℝ) ^ (52 + k) ≤ X) (hhigh : X < 2 ^ (53 + k))
    (hq : (2 * q - 1) * 2 ^ k < 2 * X ∨ ((2 * q - 1) * 2 ^ k = 2 * X ∧ q % 2 = 0))
    (hq' : 2 * X < (2 * q + 1) * 2 ^ k ∨ (2 * X = (2 * q + 1) * 2 ^ k ∧ q % 2 = 0)) :
    RoundsToMag X (min (k * 2 ^ 52 + q) infMag) := by
  have hk : (0 : ℝ) < 2 ^ k := by positivity
  rw [pow_add] at hlow hhigh
  have hq53 : q ≤ 2 ^ 53 := by
    have h : (2 * (q : ℝ) - 1) * 2 ^ k < 2 ^ 54 * 2 ^ k := by
      rcases hq with h | ⟨h, -⟩ <;> linarith
    have h := lt_of_mul_lt_mul_right h hk.le
    have : (2 * q : ℝ) < ((2 ^ 54 + 1 : Nat) : ℝ) := by push_cast; linarith
    have : 2 * q < 2 ^ 54 + 1 := by exact_mod_cast this
    omega
  have hq52 : k = 0 ∨ 2 ^ 52 ≤ q := by
    refine hlow.imp_right fun hlow => ?_
    have h : (2 : ℝ) ^ 53 * 2 ^ k ≤ (2 * q + 1) * 2 ^ k := by
      rcases hq' with h | ⟨h, -⟩ <;> linarith
    have h := le_of_mul_le_mul_right h hk
    have : (2 : ℕ) ^ 53 ≤ 2 * q + 1 := by exact_mod_cast h
    omega
  have heven : q % 2 = 0 → (k * 2 ^ 52 + q) % 2 = 0 := by omega
  have hmid : (2 * (q : ℝ) + 1) * 2 ^ k ≤ midpoint2 (k * 2 ^ 52 + q) := by
    exact_mod_cast le_midpoint2_scaled hq53 hq52
  have hreach : ReachesMag X (k * 2 ^ 52 + q) := by
    by_cases htop : k = 0 ∨ 2 ^ 52 < q
    · intro n hn
      obtain ⟨p, rfl⟩ : ∃ p, q = p + 1 := ⟨q - 1, by omega⟩
      obtain rfl : n = k * 2 ^ 52 + p := by omega
      rw [midpoint2_scaled (by omega) (by omega)]
      push_cast at hq ⊢
      rw [show 2 * ((p : ℝ) + 1) - 1 = 2 * p + 1 by ring] at hq
      exact hq.imp_right fun h => ⟨h.1, heven h.2⟩
    · obtain ⟨hk0, rfl⟩ : k ≠ 0 ∧ q = 2 ^ 52 := by omega
      refine reachesMag_of_magUnits_le ?_
      rw [magUnits_scaled (by norm_num) (.inr le_rfl)]
      rw [Nat.cast_mul, Nat.cast_pow, Nat.cast_pow, Nat.cast_ofNat]
      exact hlow.resolve_left hk0
  have hstay : StaysAtMag X (k * 2 ^ 52 + q) := by
    intro _
    rcases hq' with h | ⟨h, he⟩
    · exact .inl (h.trans_le hmid)
    · exact (h.trans_le hmid).lt_or_eq.imp_right fun h => ⟨h, heven he⟩
  refine ⟨min_le_right _ _, hreach.min_infMag, fun hm => ?_⟩
  rcases min_choice (k * 2 ^ 52 + q) infMag with h | h
  · rw [h] at hm ⊢
    exact hstay hm
  · omega

/-! ### `roundMag` (R113) -/

/-- `divEven` is the nearest integer, ties to even. -/
theorem divEven_spec {n d : Nat} (hd : 0 < d) :
    (2 * divEven n d * d < 2 * n + d ∨ (2 * divEven n d * d = 2 * n + d ∧ divEven n d % 2 = 0)) ∧
      (2 * n < (2 * divEven n d + 1) * d ∨ (2 * n = (2 * divEven n d + 1) * d ∧ divEven n d % 2 = 0)) := by
  have hn := Nat.div_add_mod n d
  have hr := Nat.mod_lt n hd
  rw [mul_comm] at hn
  unfold divEven
  generalize n / d = q at *
  generalize n % d = r at *
  have hup : 2 * (q + 1) * d = 2 * (q * d) + 2 * d := by ring
  have hup' : (2 * (q + 1) + 1) * d = 2 * (q * d) + 3 * d := by ring
  have hdn : 2 * q * d = 2 * (q * d) := by ring
  have hdn' : (2 * q + 1) * d = 2 * (q * d) + d := by ring
  split_ifs
  · omega
  · omega
  · rcases Nat.mod_two_eq_zero_or_one q with h | h <;> rw [h]
    · simp only [Nat.add_zero]
      omega
    · omega

/-- `num / den` units, rounded once. -/
theorem roundMag_rounds {num den : Nat} (hden : 0 < den) : RoundsToMag ((num : ℝ) / den) (roundMag num den) := by
  unfold roundMag
  have hd : (0 : ℝ) < den := by exact_mod_cast hden
  set L := Nat.log2 (num / den) with hL
  have hlt : num / den < 2 ^ (L + 1) := Nat.lt_log2_self
  obtain ⟨hq, hq'⟩ := divEven_spec (n := num) (d := den * 2 ^ (L - 52)) (by positivity)
  refine roundsToMag_scaled ?_ ?_ ?_ ?_
  · rcases Nat.eq_zero_or_pos (L - 52) with h | h
    · exact .inl h
    · right
      have hle : 2 ^ L ≤ num / den := Nat.log2_self_le fun h0 => by simp [hL, h0] at h
      rw [le_div_iff₀ hd, show 52 + (L - 52) = L by omega]
      exact_mod_cast (Nat.le_div_iff_mul_le hden).1 hle
  · rw [div_lt_iff₀ hd]
    have hpow : 2 ^ (L + 1) ≤ 2 ^ (53 + (L - 52)) := Nat.pow_le_pow_right two_pos (by omega)
    exact_mod_cast (Nat.div_lt_iff_lt_mul hden).1 (hlt.trans_le hpow)
  · rw [← mul_div_assoc, lt_div_iff₀ hd, eq_div_iff hd.ne']
    generalize divEven num (den * 2 ^ (L - 52)) = q at hq
    refine hq.imp (fun h => ?_) fun ⟨h, he⟩ => ⟨?_, he⟩
    · have h : (2 * q * (den * 2 ^ (L - 52)) : ℝ) < 2 * num + den * 2 ^ (L - 52) := by exact_mod_cast h
      linarith
    · have h : (2 * q * (den * 2 ^ (L - 52)) : ℝ) = 2 * num + den * 2 ^ (L - 52) := by exact_mod_cast h
      linarith
  · rw [← mul_div_assoc, div_lt_iff₀ hd, div_eq_iff hd.ne']
    generalize divEven num (den * 2 ^ (L - 52)) = q at hq'
    refine hq'.imp (fun h => ?_) fun ⟨h, he⟩ => ⟨?_, he⟩
    · have h : (2 * num : ℝ) < (2 * q + 1) * (den * 2 ^ (L - 52)) := by exact_mod_cast h
      linarith
    · have h : (2 * num : ℝ) = (2 * q + 1) * (den * 2 ^ (L - 52)) := by exact_mod_cast h
      linarith

theorem roundMag_le (num den : Nat) : roundMag num den ≤ infMag := min_le_right _ _

/-- A number of units that is a magnitude is not rounded. -/
theorem roundMag_exact {m num den : Nat} (hm : m ≤ infMag) (hden : 0 < den) (h : num = magUnits m * den) :
    roundMag num den = m := by
  have hd : (den : ℝ) ≠ 0 := by exact_mod_cast hden.ne'
  refine (roundMag_rounds hden).unique ?_
  rw [h, Nat.cast_mul, mul_div_cancel_right₀ _ hd]
  exact roundsToMag_magUnits hm

/-! ### Where a number's lowest digits do not matter -/

/-- Between consecutive multiples of `2^t` with at least 54 bits lies no midpoint. -/
theorem midpoint2_outside {j t : Nat} (hj : 2 ^ 53 ≤ j) (n : Nat) :
    midpoint2 n ≤ 2 * (j * 2 ^ t) ∨ 2 * ((j + 1) * 2 ^ t) ≤ midpoint2 n := by
  obtain ⟨q, k, hq, hk, rfl⟩ := exists_scaled n
  rw [midpoint2_scaled hq hk]
  rcases le_or_gt k t with hkt | hkt
  · left
    calc (2 * q + 1) * 2 ^ k ≤ (2 * j) * 2 ^ t :=
          Nat.mul_le_mul (by omega) (Nat.pow_le_pow_right two_pos hkt)
      _ = 2 * (j * 2 ^ t) := by ring
  · obtain ⟨e, rfl⟩ := Nat.exists_eq_add_of_lt hkt
    have hsplit : (2 * q + 1) * 2 ^ (t + e + 1) = 2 * ((2 * q + 1) * 2 ^ e * 2 ^ t) := by ring
    rw [hsplit]
    rcases le_or_gt ((2 * q + 1) * 2 ^ e) j with h | h
    · exact .inl (Nat.mul_le_mul_left _ (Nat.mul_le_mul_right _ h))
    · exact .inr (Nat.mul_le_mul_left _ (Nat.mul_le_mul_right _ h))

/-- Two numbers strictly between the same two such multiples round alike. -/
theorem RoundsToMag.of_same_cell {X Y : ℝ} {j t m : Nat} (hj : 2 ^ 53 ≤ j) (hX : (j : ℝ) * 2 ^ t < X)
    (hX' : X < (j + 1) * 2 ^ t) (hY : (j : ℝ) * 2 ^ t < Y) (hY' : Y < (j + 1) * 2 ^ t) (h : RoundsToMag Y m) :
    RoundsToMag X m := by
  have hout : ∀ n, (midpoint2 n : ℝ) ≤ 2 * (j * 2 ^ t) ∨ 2 * (((j : ℝ) + 1) * 2 ^ t) ≤ midpoint2 n := fun n => by
    exact_mod_cast midpoint2_outside hj n
  refine ⟨h.le_infMag, ?_, fun hm => ?_⟩
  · rintro n rfl
    have hle := h.reaches.midpoint2_le
    exact .inl (by rcases hout n with ho | ho <;> linarith)
  · have hle := h.stays.le_midpoint2 hm
    exact .inl (by rcases hout m with ho | ho <;> linarith)

end Sys2Proof

/-! Proofs: data and the real numbers they denote; the real operations round once (R112 to R114, R117, R120). -/

namespace Sys2Proof

/-! ### Data from sign and magnitude (R110) -/

theorem pack_toNat {s : Bool} {m : Nat} (hm : m < 2 ^ 63) : (pack s m).toNat = (if s then 2 ^ 63 else 0) + m := by
  rw [pack, BitVec.toNat_ofNat]
  exact Nat.mod_eq_of_lt (by split <;> omega)

theorem magBits_pack {s : Bool} {m : Nat} (hm : m < 2 ^ 63) : magBits (pack s m) = m := by
  rw [magBits, pack_toNat hm]
  split <;> omega

theorem signBit_eq_decide (a : F64) : signBit a = decide (2 ^ 63 ≤ a.toNat) := BitVec.msb_eq_decide a

theorem signBit_pack {s : Bool} {m : Nat} (hm : m < 2 ^ 63) : signBit (pack s m) = s := by
  rw [signBit_eq_decide, pack_toNat hm]
  cases s
  · exact decide_eq_false (by simp; omega)
  · exact decide_eq_true (by simp)

theorem toNat_eq_sign_add_mag (a : F64) : a.toNat = (if signBit a then 2 ^ 63 else 0) + magBits a := by
  have ha := a.isLt
  rw [signBit_eq_decide, magBits]
  by_cases h : 2 ^ 63 ≤ a.toNat
  · rw [decide_eq_true h, if_pos rfl]
    omega
  · rw [decide_eq_false h, if_neg Bool.false_ne_true]
    omega

/-- A datum is its sign and its magnitude. -/
theorem pack_sign_mag (a : F64) : pack (signBit a) (magBits a) = a := by
  refine BitVec.eq_of_toNat_eq ?_
  have hm : magBits a < 2 ^ 63 := Nat.mod_lt _ (by norm_num)
  rw [pack_toNat hm, ← toNat_eq_sign_add_mag]

theorem F64.ext_sign_mag {a b : F64} (hs : signBit a = signBit b) (hm : magBits a = magBits b) : a = b := by
  rw [← pack_sign_mag a, ← pack_sign_mag b, hs, hm]

theorem infMag_lt : infMag < 2 ^ 63 := by decide

theorem lt_of_le_infMag {m : Nat} (hm : m ≤ infMag) : m < 2 ^ 63 := hm.trans_lt infMag_lt

theorem isFinite_iff {a : F64} : isFinite a = true ↔ magBits a < infMag := decide_eq_true_iff

theorem isNaN_of_isFinite {a : F64} (h : isFinite a = true) : isNaN a = false :=
  decide_eq_false (isFinite_iff.1 h).not_gt

theorem isInf_of_isFinite {a : F64} (h : isFinite a = true) : isInf a = false :=
  decide_eq_false (isFinite_iff.1 h).ne

theorem isNaN_pack {s : Bool} {m : Nat} (hm : m ≤ infMag) : isNaN (pack s m) = false := by
  rw [isNaN, magBits_pack (lt_of_le_infMag hm)]
  exact decide_eq_false hm.not_gt

/-- A datum that is no NaN is finite or an infinity. -/
theorem isFinite_or_isInf {a : F64} (h : isNaN a = false) : isFinite a = true ∨ isInf a = true := by
  have h : ¬infMag < magBits a := of_decide_eq_false h
  rcases (not_lt.1 h).lt_or_eq with h | h
  · exact .inl (isFinite_iff.2 h)
  · exact .inr (decide_eq_true h)

@[simp] theorem magBits_flipSign (a : F64) : magBits (flipSign a) = magBits a := by
  have hx : (flipSign a).toNat % 2 ^ 63 = a.toNat % 2 ^ 63 := by
    rw [flipSign, BitVec.toNat_xor, Nat.xor_mod_two_pow]
    simp
  exact hx

@[simp] theorem signBit_flipSign (a : F64) : signBit (flipSign a) = !signBit a := by
  rw [signBit, flipSign, BitVec.msb_xor]
  exact Bool.xor_true _

@[simp] theorem isFinite_flipSign (a : F64) : isFinite (flipSign a) = isFinite a := by
  rw [isFinite, isFinite, magBits_flipSign]

@[simp] theorem isNaN_flipSign (a : F64) : isNaN (flipSign a) = isNaN a := by
  rw [isNaN, isNaN, magBits_flipSign]

@[simp] theorem units_flipSign (a : F64) : units (flipSign a) = units a := by
  rw [units_eq_magUnits, units_eq_magUnits, magBits_flipSign]

@[simp] theorem signedUnits_flipSign (a : F64) : signedUnits (flipSign a) = -signedUnits a := by
  rw [signedUnits, signedUnits, signBit_flipSign, units_flipSign]
  cases signBit a <;> simp

/-! ### Values -/

theorem natAbs_signedUnits (a : F64) : (signedUnits a).natAbs = units a := by
  unfold signedUnits
  split
  · rw [Int.natAbs_neg, Int.natAbs_natCast]
  · exact Int.natAbs_natCast _

theorem units_eq_zero_iff {a : F64} : units a = 0 ↔ magBits a = 0 := by
  rw [units_eq_magUnits, ← magUnits_zero]
  exact magUnits_strictMono.injective.eq_iff

theorem signedUnits_eq_zero_iff {a : F64} : signedUnits a = 0 ↔ magBits a = 0 := by
  rw [← Int.natAbs_eq_zero, natAbs_signedUnits, units_eq_zero_iff]

/-- The number of units in 1. -/
noncomputable def unitsPerOne : ℝ := 2 ^ 1074

theorem unitsPerOne_pos : 0 < unitsPerOne := by
  unfold unitsPerOne
  positivity

theorem unitsPerOne_eq_cast : unitsPerOne = ((2 ^ 1074 : Nat) : ℝ) := by rw [unitsPerOne, Nat.cast_pow, Nat.cast_ofNat]

theorem valueOf_eq_div (a : F64) : valueOf a = signedUnits a / unitsPerOne := rfl

theorem valueOf_mul_unitsPerOne (a : F64) : valueOf a * unitsPerOne = signedUnits a :=
  div_mul_cancel₀ _ unitsPerOne_pos.ne'

theorem abs_valueOf (a : F64) : |valueOf a| = units a / unitsPerOne := by
  rw [valueOf_eq_div, abs_div, abs_of_pos unitsPerOne_pos, ← Int.cast_abs, Int.abs_eq_natAbs, natAbs_signedUnits,
    Int.cast_natCast]

theorem abs_valueOf_mul_unitsPerOne (a : F64) : |valueOf a| * unitsPerOne = units a := by
  rw [abs_valueOf, div_mul_cancel₀ _ unitsPerOne_pos.ne']

theorem valueOf_eq_zero_iff {a : F64} : valueOf a = 0 ↔ units a = 0 := by
  rw [← abs_eq_zero, abs_valueOf, div_eq_zero_iff, Nat.cast_eq_zero]
  exact or_iff_left unitsPerOne_pos.ne'

@[simp] theorem valueOf_flipSign (a : F64) : valueOf (flipSign a) = -valueOf a := by
  rw [valueOf_eq_div, valueOf_eq_div, signedUnits_flipSign, Int.cast_neg, neg_div]

/-! ### Signs as factors -/

/-- A sign bit as a factor. -/
def signFactor (s : Bool) : ℝ := if s then -1 else 1

@[simp] theorem abs_signFactor (s : Bool) : |signFactor s| = 1 := by cases s <;> simp [signFactor]

theorem signFactor_mul_self (s : Bool) : signFactor s * signFactor s = 1 := by cases s <;> simp [signFactor]

/-- R113: the exclusive-or of two signs is the sign of a product. -/
theorem signFactor_bne (s t : Bool) : signFactor (s != t) = signFactor s * signFactor t := by
  cases s <;> cases t <;> simp [signFactor]

theorem valueOf_eq_signFactor_mul (a : F64) : valueOf a = signFactor (signBit a) * (units a / unitsPerOne) := by
  rw [valueOf_eq_div, signedUnits, signFactor]
  split
  · rw [Int.cast_neg, Int.cast_natCast, neg_div, neg_one_mul]
  · rw [Int.cast_natCast, one_mul]

theorem signFactor_mul_valueOf (a : F64) : signFactor (signBit a) * valueOf a = |valueOf a| := by
  rw [abs_valueOf, valueOf_eq_signFactor_mul, ← mul_assoc, signFactor_mul_self, one_mul]

theorem signFactor_decide_mul (x : ℝ) : signFactor (decide (x < 0)) * x = |x| := by
  rcases lt_or_ge x 0 with h | h
  · rw [decide_eq_true h, abs_of_neg h]
    exact neg_one_mul x
  · rw [decide_eq_false h.not_gt, abs_of_nonneg h]
    exact one_mul x

theorem signFactor_decide_mul_abs (x : ℝ) : signFactor (decide (x < 0)) * |x| = x := by
  rw [← signFactor_decide_mul, ← mul_assoc, signFactor_mul_self, one_mul]

theorem decide_cast_neg (z : Int) : decide ((z : ℝ) < 0) = decide (z < 0) := by
  rw [decide_eq_decide]
  exact Int.cast_lt_zero

theorem cast_natAbs_eq_abs (z : Int) : ((z.natAbs : Nat) : ℝ) = |(z : ℝ)| := by
  rw [← Int.cast_abs, Int.abs_eq_natAbs, Int.cast_natCast]

theorem signFactor_injective : Function.Injective signFactor := by
  intro s t h
  cases s <;> cases t
  · rfl
  · exact absurd h (by norm_num [signFactor])
  · exact absurd h (by norm_num [signFactor])
  · rfl

/-- A sign bit that fits a real other than 0 is the real's sign. -/
theorem eq_decide_of_signFactor_mul {x : ℝ} {s : Bool} (hx : x ≠ 0) (h : signFactor s * x = |x|) :
    s = decide (x < 0) :=
  signFactor_injective (mul_right_cancel₀ hx (h.trans (signFactor_decide_mul x).symm))

/-! ### From midpoints to `RoundsTo` (R113) -/

/-- The overflow bound is the midpoint below an infinity. -/
theorem overflowBound_scaled : 2 * (overflowBound * unitsPerOne) = midpoint2 (infMag - 1) := by
  have h : midpoint2 (infMag - 1) = 2 * ((2 ^ 1024 - 2 ^ 970) * 2 ^ 1074) := by decide +kernel
  have hle : 2 ^ 970 ≤ 2 ^ 1024 := by decide +kernel
  rw [h, overflowBound, unitsPerOne, Nat.cast_mul, Nat.cast_mul, Nat.cast_sub hle, Nat.cast_pow, Nat.cast_pow,
    Nat.cast_pow, Nat.cast_ofNat]

theorem overflowBound_pos : 0 < overflowBound :=
  sub_pos.2 (pow_lt_pow_right₀ one_lt_two (by decide))

theorem RoundsToMag.eq_infMag_iff {X : ℝ} {m : Nat} (h : RoundsToMag X m) :
    m = infMag ↔ overflowBound * unitsPerOne ≤ X := by
  have hb := overflowBound_scaled
  constructor
  · rintro rfl
    have := h.reaches.midpoint2_le (n := infMag - 1)
    linarith
  · intro hX
    refine le_antisymm h.le_infMag (le_of_reaches_of_stays hX le_rfl ?_ h.stays)
    rintro n hn
    exact .inr ⟨by rw [hb, show n = infMag - 1 by omega], by decide⟩

theorem cast_midpoint2 (m : Nat) : (midpoint2 m : ℝ) = magUnits m + magUnits (m + 1) := Nat.cast_add _ _

theorem magUnits_cast_le {m n : Nat} (h : m ≤ n) : (magUnits m : ℝ) ≤ magUnits n :=
  Nat.cast_le.2 (magUnits_strictMono.monotone h)

theorem magUnits_cast_lt_succ (m : Nat) : (magUnits m : ℝ) < magUnits (m + 1) :=
  Nat.cast_lt.2 (magUnits_strictMono m.lt_succ_self)

/-- No magnitude is nearer than the one rounded to, and a tie goes to an even one. -/
theorem RoundsToMag.nearest {X : ℝ} {m : Nat} (h : RoundsToMag X m) (hm : m < infMag) (n : Nat) :
    |(magUnits m : ℝ) - X| ≤ |(magUnits n : ℝ) - X| ∧
      (|(magUnits m : ℝ) - X| = |(magUnits n : ℝ) - X| → n ≠ m → m % 2 = 0) := by
  obtain hlt | rfl | hgt := lt_trichotomy n m
  · obtain ⟨p, rfl⟩ : ∃ p, m = p + 1 := ⟨m - 1, by omega⟩
    have hnp := magUnits_cast_le (show n ≤ p by omega)
    have hpm := magUnits_cast_lt_succ p
    have hmid := cast_midpoint2 p
    have hX := h.reaches.midpoint2_le
    rw [abs_sub_comm (magUnits n : ℝ), abs_of_nonneg (show 0 ≤ X - magUnits n by linarith)]
    refine ⟨abs_le.2 ⟨by linarith, by linarith⟩, fun he _ => ?_⟩
    obtain hs | ⟨-, hs⟩ := h.reaches p rfl
    · rcases abs_choice ((magUnits (p + 1) : ℝ) - X) with hc | hc <;> rw [hc] at he <;> linarith
    · exact hs
  · exact ⟨le_rfl, fun _ hne => absurd rfl hne⟩
  · have hmn := magUnits_cast_le (Nat.succ_le_of_lt hgt)
    have hms := magUnits_cast_lt_succ m
    have hmid := cast_midpoint2 m
    have hX := h.stays.le_midpoint2 hm
    rw [abs_of_nonneg (show 0 ≤ (magUnits n : ℝ) - X by linarith)]
    refine ⟨abs_le.2 ⟨by linarith, by linarith⟩, fun he _ => ?_⟩
    obtain hs | ⟨-, hs⟩ := h.stays hm
    · rcases abs_choice ((magUnits m : ℝ) - X) with hc | hc <;> rw [hc] at he <;> linarith
    · exact hs

/-- The same among numbers of either sign: one of the other sign is no nearer than zero. -/
theorem RoundsToMag.nearest_signed {X w : ℝ} {m n : Nat} (h : RoundsToMag X m) (hX : 0 ≤ X) (hm : m < infMag)
    (hw : |w| = magUnits n) :
    |(magUnits m : ℝ) - X| ≤ |w - X| ∧ (|(magUnits m : ℝ) - X| = |w - X| → w ≠ magUnits m → m % 2 = 0) := by
  rcases abs_choice w with hc | hc <;> rw [hc] at hw
  · subst hw
    obtain ⟨h1, h2⟩ := h.nearest hm n
    exact ⟨h1, fun he hne => h2 he fun hnm => hne (by rw [hnm])⟩
  · obtain ⟨h1, h2⟩ := h.nearest hm 0
    have hn : (0 : ℝ) ≤ magUnits n := Nat.cast_nonneg _
    have h0 : |(magUnits 0 : ℝ) - X| = X := by simp [abs_of_nonneg hX]
    have hwX : |w - X| = magUnits n + X := by rw [abs_sub_comm, abs_of_nonneg (by linarith)]; linarith
    rw [h0] at h1 h2
    rw [hwX]
    refine ⟨by linarith, fun he _ => ?_⟩
    by_cases hm0 : m = 0
    · rw [hm0]
    · exact h2 (by linarith) (Ne.symm hm0)

/-- A sign and a rounded magnitude are the real rounded once. The sign of a zero is not the real's. -/
theorem RoundsToMag.roundsTo_pack {x : ℝ} {s : Bool} {m : Nat} (h : RoundsToMag (|x| * unitsPerOne) m)
    (hs : signFactor s * x = |x|) : RoundsTo x (pack s m) := by
  have hP := unitsPerOne_pos
  have hm63 := lt_of_le_infMag h.le_infMag
  have hover : overflowBound ≤ |x| ↔ m = infMag := by
    rw [h.eq_infMag_iff]
    exact (mul_le_mul_iff_of_pos_right hP).symm
  unfold RoundsTo
  split
  · next hx =>
    have hx0 : x ≠ 0 := abs_pos.1 (overflowBound_pos.trans_le hx)
    exact ⟨decide_eq_true (by rw [magBits_pack hm63]; exact hover.1 hx),
      by rw [signBit_pack hm63]; exact eq_decide_of_signFactor_mul hx0 hs⟩
  · next hx =>
    have hmlt : m < infMag := h.le_infMag.lt_of_ne fun he => hx (hover.2 he)
    refine ⟨isFinite_iff.2 (by rwa [magBits_pack hm63]), fun y _ => ?_⟩
    have hr : signFactor s * (valueOf (pack s m) * unitsPerOne) = magUnits m := by
      rw [valueOf_eq_signFactor_mul, signBit_pack hm63, units_eq_magUnits, magBits_pack hm63, mul_assoc,
        div_mul_cancel₀ _ hP.ne', ← mul_assoc, signFactor_mul_self, one_mul]
    have hw : |signFactor s * (valueOf y * unitsPerOne)| = magUnits (magBits y) := by
      rw [abs_mul, abs_signFactor, one_mul, abs_mul, abs_of_pos hP, abs_valueOf_mul_unitsPerOne, units_eq_magUnits]
    have hscale : ∀ v : ℝ, |signFactor s * (v * unitsPerOne) - |x| * unitsPerOne| = |v - x| * unitsPerOne := fun v => by
      rw [← hs, mul_assoc, ← mul_sub, ← sub_mul, abs_mul, abs_signFactor, one_mul, abs_mul, abs_of_pos hP]
    obtain ⟨h1, h2⟩ := h.nearest_signed (mul_nonneg (abs_nonneg x) hP.le) hmlt hw
    rw [← hr, hscale, hscale] at h1 h2
    refine ⟨le_of_mul_le_mul_right h1 hP, fun he hne => ?_⟩
    have heven : m % 2 = 0 := h2 (by rw [he]) fun heq => hne <|
      mul_right_cancel₀ hP.ne' (mul_left_cancel₀ (abs_pos.1 (by rw [abs_signFactor]; exact one_pos)) heq)
    rw [pack_toNat hm63]
    split <;> omega

/-- The form in which the operations use it. -/
theorem roundsTo_pack_roundMag {x : ℝ} {s : Bool} {num den : Nat} (hden : 0 < den)
    (hx : |x| * unitsPerOne = num / den) (hs : signFactor s * x = |x|) : RoundsTo x (pack s (roundMag num den)) := by
  refine RoundsToMag.roundsTo_pack ?_ hs
  rw [hx]
  exact roundMag_rounds hden

/-- A zero of either sign is 0 rounded. -/
theorem roundsTo_zero (s : Bool) : RoundsTo 0 (pack s 0) := by
  refine RoundsToMag.roundsTo_pack ?_ (by rw [mul_zero, abs_zero])
  have h := roundsToMag_magUnits (Nat.zero_le infMag)
  rwa [magUnits_zero, Nat.cast_zero, ← zero_mul unitsPerOne, ← abs_zero] at h

/-! ### Addition and subtraction (R113) -/

theorem fadd_of_isFinite {a b : F64} (d : Nat) (ha : isFinite a = true) (hb : isFinite b = true) :
    fadd d a b = if signedUnits a + signedUnits b = 0 then pack (signBit a && signBit b) 0
      else roundInt (signedUnits a + signedUnits b) := by
  simp [fadd, isNaN_of_isFinite ha, isNaN_of_isFinite hb, isInf_of_isFinite ha, isInf_of_isFinite hb]

theorem roundInt_roundsTo (x : Int) : RoundsTo (x / unitsPerOne) (roundInt x) := by
  have hP := unitsPerOne_pos
  refine roundsTo_pack_roundMag one_pos ?_ ?_
  · rw [abs_div, abs_of_pos hP, div_mul_cancel₀ _ hP.ne', ← Int.cast_abs, Int.abs_eq_natAbs, Int.cast_natCast,
      Nat.cast_one, div_one]
  · have hneg : decide (x < 0) = decide ((x : ℝ) / unitsPerOne < 0) := by
      rw [decide_eq_decide, div_neg_iff]
      simp [hP, hP.not_gt]
    rw [hneg, signFactor_decide_mul]

theorem fadd_roundsTo {a b : F64} (d : Nat) (ha : isFinite a = true) (hb : isFinite b = true) :
    RoundsTo (valueOf a + valueOf b) (fadd d a b) := by
  have hsum : valueOf a + valueOf b = (signedUnits a + signedUnits b : Int) / unitsPerOne := by
    rw [valueOf_eq_div, valueOf_eq_div, ← add_div, Int.cast_add]
  rw [hsum, fadd_of_isFinite d ha hb]
  split
  · next h0 =>
    rw [h0, Int.cast_zero, zero_div]
    exact roundsTo_zero _
  · exact roundInt_roundsTo _

/-- Settles O48: subtraction is addition of the other sign. -/
theorem addSubRoundOnce : Obligations.AddSubRoundOnce := by
  intro d a b ha hb
  refine ⟨fadd_roundsTo d ha hb, ?_⟩
  rw [sub_eq_add_neg, ← valueOf_flipSign]
  exact fadd_roundsTo d ha (by rwa [isFinite_flipSign])

/-! ### Multiplication and division (R113) -/

theorem fmul_of_isFinite {a b : F64} (d : Nat) (ha : isFinite a = true) (hb : isFinite b = true) :
    fmul d a b = pack (signBit a != signBit b) (roundMag (units a * units b) (2 ^ 1074)) := by
  simp [-Nat.reducePow, fmul, isNaN_of_isFinite ha, isNaN_of_isFinite hb, isInf_of_isFinite ha, isInf_of_isFinite hb]

theorem fdiv_of_isFinite {a b : F64} (d : Nat) (ha : isFinite a = true) (hb : isFinite b = true) (h0 : units b ≠ 0) :
    fdiv d a b = pack (signBit a != signBit b) (roundMag (units a * 2 ^ 1074) (units b)) := by
  simp [-Nat.reducePow, fdiv, isNaN_of_isFinite ha, isNaN_of_isFinite hb, isInf_of_isFinite ha, isInf_of_isFinite hb,
    h0]

theorem fmul_roundsTo {a b : F64} (d : Nat) (ha : isFinite a = true) (hb : isFinite b = true) :
    RoundsTo (valueOf a * valueOf b) (fmul d a b) := by
  rw [fmul_of_isFinite d ha hb]
  refine roundsTo_pack_roundMag (by positivity) ?_ ?_
  · rw [abs_mul, mul_assoc, abs_valueOf_mul_unitsPerOne, abs_valueOf, ← unitsPerOne_eq_cast, Nat.cast_mul,
      div_mul_eq_mul_div]
  · rw [signFactor_bne, mul_mul_mul_comm, signFactor_mul_valueOf, signFactor_mul_valueOf, abs_mul]

theorem fdiv_roundsTo {a b : F64} (d : Nat) (ha : isFinite a = true) (hb : isFinite b = true) (h0 : valueOf b ≠ 0) :
    RoundsTo (valueOf a / valueOf b) (fdiv d a b) := by
  have hP := unitsPerOne_pos
  have hu : units b ≠ 0 := fun h => h0 (valueOf_eq_zero_iff.2 h)
  rw [fdiv_of_isFinite d ha hb hu]
  refine roundsTo_pack_roundMag (Nat.pos_of_ne_zero hu) ?_ ?_
  · rw [abs_div, abs_valueOf, abs_valueOf, div_div_div_cancel_right₀ hP.ne', Nat.cast_mul, ← unitsPerOne_eq_cast,
      div_mul_eq_mul_div]
  · have hinv : signFactor (signBit b) * (valueOf b)⁻¹ = |(valueOf b)⁻¹| := by
      rw [abs_inv, ← signFactor_mul_valueOf b, mul_inv,
        inv_eq_of_mul_eq_one_left (signFactor_mul_self (signBit b))]
    rw [signFactor_bne, div_eq_mul_inv, mul_mul_mul_comm, signFactor_mul_valueOf, hinv, abs_mul]

/-- Settles O49: on finite data each is the rounded quotient of two naturals, the sign the product of the signs. -/
theorem mulDivRoundOnce : Obligations.MulDivRoundOnce := fun d _ _ ha hb =>
  ⟨fmul_roundsTo d ha hb, fdiv_roundsTo d ha hb⟩

end Sys2Proof

/-! Proofs: square root, signs of zeros, identities and conversions (R112 to R114, R130 P1 to P3). -/

namespace Sys2Proof

/-! ### Square root (R114) -/

theorem isqrt_eq_sqrt {fuel n : Nat} (h : n < 4 ^ fuel) : isqrt fuel n = Nat.sqrt n := by
  induction fuel generalizing n with
  | zero =>
    obtain rfl : n = 0 := by omega
    rfl
  | succ fuel ih =>
    have hle := Nat.sqrt_le (n / 4)
    have hlt := Nat.lt_succ_sqrt (n / 4)
    rw [isqrt, ih (by omega), Nat.eq_sqrt]
    generalize Nat.sqrt (n / 4) = r at hle hlt
    have h0 : 2 * r * (2 * r) = 4 * (r * r) := by ring
    have h2 : (2 * r + 1 + 1) * (2 * r + 1 + 1) = 4 * (r.succ * r.succ) := by rw [Nat.succ_eq_add_one]; ring
    split <;> omega

/-- The root's leading digits with one more for everything below them are rounded as the root itself is. -/
theorem roundMag_root {m t : Nat} (hr : 2 ^ 53 ≤ Nat.sqrt (m / 4 ^ t)) :
    RoundsToMag √m
      (roundMag ((if Nat.sqrt (m / 4 ^ t) * Nat.sqrt (m / 4 ^ t) * 4 ^ t = m then 2 * Nat.sqrt (m / 4 ^ t)
        else 2 * Nat.sqrt (m / 4 ^ t) + 1) * 2 ^ t) 2) := by
  have hle := Nat.sqrt_le (m / 4 ^ t)
  have hlt := Nat.lt_succ_sqrt (m / 4 ^ t)
  generalize Nat.sqrt (m / 4 ^ t) = r at *
  have h4 : (4 : ℝ) ^ t = 2 ^ t * 2 ^ t := by rw [← mul_pow]; norm_num
  have hlow : r * r * 4 ^ t ≤ m := (Nat.le_div_iff_mul_le (by positivity)).1 hle
  have hhigh : m < (r + 1) * (r + 1) * 4 ^ t := (Nat.div_lt_iff_lt_mul (by positivity)).1 hlt
  split
  · next heq =>
    have hX : √(m : ℝ) = ((2 * r * 2 ^ t : Nat) : ℝ) / (2 : Nat) := by
      rw [← heq]
      push_cast
      rw [h4, Real.sqrt_eq_iff_mul_self_eq (by positivity) (by positivity)]
      ring
    rw [hX]
    exact roundMag_rounds two_pos
  · next hne =>
    have hY := roundMag_rounds (num := (2 * r + 1) * 2 ^ t) two_pos
    have hlow' : (r : ℝ) * r * 4 ^ t < m := by exact_mod_cast hlow.lt_of_ne hne
    have hhigh' : (m : ℝ) < (r + 1) * (r + 1) * 4 ^ t := by exact_mod_cast hhigh
    have hcast : (((2 * r + 1) * 2 ^ t : Nat) : ℝ) / (2 : Nat) = (r + 1 / 2) * 2 ^ t := by push_cast; ring
    have ht : (0 : ℝ) < 2 ^ t := by positivity
    rw [hcast] at hY
    rw [h4] at hlow' hhigh'
    refine hY.of_same_cell (t := t) hr ?_ ?_ ?_ ?_
    · rw [Real.lt_sqrt (by positivity), sq]
      linarith
    · rw [Real.sqrt_lt' (by positivity), sq]
      linarith
    · nlinarith
    · nlinarith

/-- Bits 62:0 of the rounded root of `n` units. -/
theorem sqrtMag_rounds {n : Nat} (hn : 0 < n) : RoundsToMag √(n * unitsPerOne) (sqrtMag n) := by
  have hm : ((n * 2 ^ 1074 : Nat) : ℝ) = n * unitsPerOne := by rw [Nat.cast_mul, unitsPerOne_eq_cast]
  rw [← hm, sqrtMag]
  have hbig : 2 ^ 128 ≤ n * 2 ^ 1074 := by omega
  generalize n * 2 ^ 1074 = m at hbig
  set t := (Nat.log2 m - 128) / 2 with ht
  have hL : 128 ≤ Nat.log2 m := (Nat.le_log2 (by omega)).2 hbig
  have hpow : (4 : Nat) ^ t = 2 ^ (2 * t) := by rw [pow_mul, show (2 : Nat) ^ 2 = 4 from rfl]
  have hlow : 2 ^ 128 ≤ m / 4 ^ t := by
    rw [hpow, Nat.le_div_iff_mul_le (by positivity), ← pow_add]
    exact (Nat.pow_le_pow_right two_pos (by omega)).trans (Nat.log2_self_le (by omega))
  have hhigh : m / 4 ^ t < 4 ^ 66 := by
    rw [hpow, Nat.div_lt_iff_lt_mul (by positivity), show (4 : Nat) ^ 66 = 2 ^ 132 by norm_num, ← pow_add]
    exact Nat.lt_log2_self.trans_le (Nat.pow_le_pow_right two_pos (by omega))
  have hr : 2 ^ 53 ≤ Nat.sqrt (m / 4 ^ t) := Nat.le_sqrt.2 (le_trans (by norm_num) hlow)
  simp only [isqrt_eq_sqrt hhigh]
  exact roundMag_root hr

theorem fsqrt_of_magBits_eq_zero {a : F64} (d : Nat) (h : magBits a = 0) : fsqrt d a = a := by
  have hn : isNaN a = false := by rw [isNaN, h]; decide
  simp [fsqrt, hn, h]

theorem isFinite_eq_false_of_isInf {a : F64} (h : isInf a = true) : isFinite a = false :=
  decide_eq_false (of_decide_eq_true h).not_lt

theorem isNaN_of_isInf {a : F64} (h : isInf a = true) : isNaN a = false :=
  decide_eq_false (of_decide_eq_true h).not_gt

theorem units_ne_zero_of_isInf {a : F64} (h : isInf a = true) : units a ≠ 0 := fun h0 => by
  have hm : magBits a = infMag := of_decide_eq_true h
  rw [units_eq_zero_iff.1 h0] at hm
  exact absurd hm (by decide)

theorem fsqrt_of_isInf {a : F64} (d : Nat) (ha : isInf a = true) (hs : signBit a = false) : fsqrt d a = a := by
  simp [fsqrt, isNaN_of_isInf ha, units_eq_zero_iff.not.1 (units_ne_zero_of_isInf ha), ha, hs]

theorem fsqrt_of_isFinite {a : F64} (d : Nat) (ha : isFinite a = true) (h0 : magBits a ≠ 0) (hs : signBit a = false) :
    fsqrt d a = pack false (sqrtMag (units a)) := by
  simp [fsqrt, isNaN_of_isFinite ha, isInf_of_isFinite ha, h0, hs]

/-- The root of a value in units. -/
theorem sqrt_valueOf_mul {a : F64} (hs : signBit a = false) :
    √(valueOf a) * unitsPerOne = √(units a * unitsPerOne) := by
  have hP := unitsPerOne_pos
  have hv : valueOf a = units a / unitsPerOne := by rw [valueOf_eq_signFactor_mul, hs]; exact one_mul _
  have hnonneg : (0 : ℝ) ≤ units a / unitsPerOne := by positivity
  rw [hv, eq_comm, Real.sqrt_eq_iff_mul_self_eq (by positivity) (by positivity), mul_mul_mul_comm,
    Real.mul_self_sqrt hnonneg, ← mul_assoc, div_mul_cancel₀ _ hP.ne']

theorem fsqrt_roundsTo {a : F64} (d : Nat) (ha : isFinite a = true) (hs : signBit a = false) :
    RoundsTo √(valueOf a) (fsqrt d a) := by
  by_cases h0 : magBits a = 0
  · rw [fsqrt_of_magBits_eq_zero d h0, valueOf_eq_zero_iff.2 (units_eq_zero_iff.2 h0), Real.sqrt_zero,
      ← pack_sign_mag a, h0]
    exact roundsTo_zero _
  · rw [fsqrt_of_isFinite d ha h0 hs]
    refine RoundsToMag.roundsTo_pack ?_ ?_
    · rw [abs_of_nonneg (Real.sqrt_nonneg _), sqrt_valueOf_mul hs]
      exact sqrtMag_rounds (Nat.pos_of_ne_zero (units_eq_zero_iff.not.2 h0))
    · rw [abs_of_nonneg (Real.sqrt_nonneg _)]
      exact one_mul _

/-- Settles O50: finite data by `fsqrt_roundsTo`, the special values by `fsqrt`'s own tests. -/
theorem sqrtRoundsOnce : Obligations.SqrtRoundsOnce := by
  refine ⟨fun d a => fsqrt_roundsTo d, fun d => ⟨fsqrt_of_magBits_eq_zero d rfl, ?_, fun a ha => ?_⟩⟩
  · exact fsqrt_of_isInf d (by decide) (by decide)
  · rw [fsqrt_nan d a ha]
    exact isNaN_qnan d

/-! ### Signs of zeros (R113) -/

/-- Settles O51: the sign of a product or quotient is the exclusive-or whatever its magnitude; an exact sum 0 has the
sign of both operands or none. -/
theorem zeroSigns : Obligations.ZeroSigns := by
  intro d a b ha hb
  refine ⟨?_, ?_, fun _ => ?_, fun h0 _ => ?_⟩
  · rw [fsub, fadd_of_isFinite d ha (by rwa [isFinite_flipSign]), signedUnits_flipSign, if_pos (add_neg_cancel _),
      signBit_flipSign, Bool.and_not_self]
    rfl
  · rw [fadd_of_isFinite d (by decide) (by decide)]
    decide
  · rw [fmul_of_isFinite d ha hb, signBit_pack (lt_of_le_infMag (roundMag_le _ _))]
  · rw [fdiv_of_isFinite d ha hb (fun h => h0 (valueOf_eq_zero_iff.2 h)),
      signBit_pack (lt_of_le_infMag (roundMag_le _ _))]

/-! ### Identities (R130 P1, P2, P3) -/

/-- A sum with an infinite left operand. -/
theorem fadd_of_isInf_left {a b : F64} (d : Nat) (ha : isInf a = true) (hb : isNaN b = false) :
    fadd d a b = if isInf b && signBit a != signBit b then qnan d else a := by
  simp [fadd, isNaN_of_isInf ha, ha, hb]

theorem fadd_of_isInf_right {a b : F64} (d : Nat) (ha : isFinite a = true) (hb : isInf b = true) : fadd d a b = b := by
  simp [fadd, isNaN_of_isFinite ha, isInf_of_isFinite ha, isNaN_of_isInf hb, hb]

theorem fadd_comm {a b : F64} (d : Nat) (ha : isNaN a = false) (hb : isNaN b = false) : fadd d a b = fadd d b a := by
  rcases isFinite_or_isInf ha with fa | ia <;> rcases isFinite_or_isInf hb with fb | ib
  · rw [fadd_of_isFinite d fa fb, fadd_of_isFinite d fb fa, add_comm, Bool.and_comm]
  · rw [fadd_of_isInf_right d fa ib, fadd_of_isInf_left d ib ha, isInf_of_isFinite fa]
    rfl
  · rw [fadd_of_isInf_right d fb ia, fadd_of_isInf_left d ia hb, isInf_of_isFinite fb]
    rfl
  · rw [fadd_of_isInf_left d ia hb, fadd_of_isInf_left d ib ha, ia, ib]
    by_cases hs : signBit a = signBit b
    · have hab : a = b := F64.ext_sign_mag hs ((of_decide_eq_true ia).trans (of_decide_eq_true ib).symm)
      rw [hab]
    · simp [hs, Ne.symm hs]

theorem fmul_comm (d : Nat) (a b : F64) : fmul d a b = fmul d b a := by
  have hs : (signBit a != signBit b) = (signBit b != signBit a) := bne_comm
  simp only [fmul, Bool.or_comm (isNaN a), Bool.or_comm (isInf a), Bool.or_comm (decide (units a = 0)),
    mul_comm (units a), hs]

theorem pack_zero_eq {a : F64} {s : Bool} (h : magBits a = 0) (hs : s = signBit a) : pack s 0 = a := by
  rw [hs, ← h, pack_sign_mag]

/-- A finite datum is its number of units rounded. -/
theorem roundMag_units {a : F64} (ha : isFinite a = true) {num den : Nat} (hden : 0 < den) (h : num = units a * den) :
    roundMag num den = magBits a :=
  roundMag_exact (isFinite_iff.1 ha).le hden h

theorem fmul_one_left {a : F64} (d : Nat) (ha : isNaN a = false) : fmul d fOne a = a := by
  have h1 : isFinite fOne = true ∧ units fOne = 2 ^ 1074 ∧ signBit fOne = false := by decide +kernel
  obtain ⟨hf, hu, hs⟩ := h1
  rcases isFinite_or_isInf ha with fa | ia
  · rw [fmul_of_isFinite d hf fa, hs, Bool.false_bne, roundMag_units fa (by positivity) (by rw [hu, mul_comm]),
      pack_sign_mag]
  · have hm : magBits a = infMag := of_decide_eq_true ia
    have h0 : units fOne ≠ 0 := by rw [hu]; positivity
    simp only [fmul, isNaN_of_isFinite hf, ha, ia, h0, units_ne_zero_of_isInf ia, hs, Bool.or_self, Bool.or_true,
      decide_false, Bool.false_eq_true, if_false, if_true, Bool.false_bne]
    rw [← hm, pack_sign_mag]

/-- A finite datum other than a zero is its signed units rounded. -/
theorem roundInt_signedUnits {a : F64} (ha : isFinite a = true) (h0 : signedUnits a ≠ 0) :
    roundInt (signedUnits a) = a := by
  have hs : decide (signedUnits a < 0) = signBit a := by
    unfold signedUnits at h0 ⊢
    cases signBit a
    · exact decide_eq_false (by simp)
    · exact decide_eq_true (by simp only [if_true] at h0 ⊢; omega)
  rw [roundInt, hs, natAbs_signedUnits, roundMag_units ha one_pos (mul_one _).symm, pack_sign_mag]

/-- A sum with a zero is the other operand, unless that is a zero too. -/
theorem fadd_zero_right {a z : F64} (d : Nat) (ha : isNaN a = false) (hz : magBits z = 0) :
    fadd d a z = if magBits a = 0 then pack (signBit a && signBit z) 0 else a := by
  have fz : isFinite z = true := isFinite_iff.2 (by rw [hz]; decide)
  rcases isFinite_or_isInf ha with fa | ia
  · rw [fadd_of_isFinite d fa fz, signedUnits_eq_zero_iff.2 hz, add_zero]
    simp only [signedUnits_eq_zero_iff]
    split
    · rfl
    · next h => exact roundInt_signedUnits fa (signedUnits_eq_zero_iff.not.2 h)
  · have hm : magBits a ≠ 0 := units_eq_zero_iff.not.1 (units_ne_zero_of_isInf ia)
    rw [fadd_of_isInf_left d ia (isNaN_of_isFinite fz), isInf_of_isFinite fz, if_neg hm]
    rfl

/-- Settles O52: commutativity by the kinds of operands; a product with 1 and a sum with a zero round nothing. -/
theorem realIdentities : Obligations.RealIdentities := by
  intro d a b ha hb
  refine ⟨fadd_comm d ha hb, fmul_comm d a b, fmul_one_left d ha, fun hne => ?_, ?_, ?_⟩
  · rw [fadd_zero_right d ha rfl]
    split
    · next h =>
      have hs : signBit a = false := Bool.eq_false_iff.2 fun hs => hne (F64.ext_sign_mag hs h)
      exact pack_zero_eq h (by rw [hs]; rfl)
    · rfl
  · rw [fadd_zero_right d (by decide) rfl]
    rfl
  · rw [fsub, fadd_zero_right d ha rfl]
    split
    · next h => exact pack_zero_eq h (Bool.and_true _)
    · rfl

/-! ### Conversions (R112) -/

/-- A natural below `2^53` is a magnitude. -/
theorem exists_magUnits_eq {n : Nat} (hn : n < 2 ^ 53) : ∃ m < infMag, magUnits m = n * 2 ^ 1074 := by
  obtain rfl | h0 := Nat.eq_zero_or_pos n
  · exact ⟨0, by decide, by rw [magUnits_zero, Nat.zero_mul]⟩
  · have hl : Nat.log2 n < 53 := (Nat.log2_lt h0.ne').2 hn
    have hle : 2 ^ Nat.log2 n ≤ n := Nat.log2_self_le h0.ne'
    have hlt : n < 2 ^ (Nat.log2 n + 1) := Nat.lt_log2_self
    generalize Nat.log2 n = l at *
    have hq : n * 2 ^ (52 - l) < 2 ^ 53 := by
      calc n * 2 ^ (52 - l) < 2 ^ (l + 1) * 2 ^ (52 - l) := Nat.mul_lt_mul_of_pos_right hlt (by positivity)
        _ = 2 ^ 53 := by rw [← pow_add]; congr 1; omega
    have hq' : 2 ^ 52 ≤ n * 2 ^ (52 - l) := by
      calc 2 ^ 52 = 2 ^ l * 2 ^ (52 - l) := by rw [← pow_add]; congr 1; omega
        _ ≤ n * 2 ^ (52 - l) := Nat.mul_le_mul_right _ hle
    refine ⟨(1022 + l) * 2 ^ 52 + n * 2 ^ (52 - l), ?_, ?_⟩
    · rw [infMag]
      omega
    · rw [magUnits_scaled hq.le (.inr hq'), mul_assoc, ← pow_add]
      congr 2
      omega

/-- A natural below `2^53` with a sign, converted exactly. -/
theorem pack_roundMag_nat (s : Bool) {n : Nat} (hn : n < 2 ^ 53) :
    isFinite (pack s (roundMag (n * 2 ^ 1074) 1)) = true ∧
      valueOf (pack s (roundMag (n * 2 ^ 1074) 1)) = signFactor s * n := by
  obtain ⟨m, hm, hu⟩ := exists_magUnits_eq hn
  have hm63 := lt_of_le_infMag hm.le
  rw [roundMag_exact hm.le one_pos (by rw [hu, mul_one])]
  refine ⟨isFinite_iff.2 (by rwa [magBits_pack hm63]), ?_⟩
  rw [valueOf_eq_signFactor_mul, signBit_pack hm63, units_eq_magUnits, magBits_pack hm63, hu, Nat.cast_mul,
    ← unitsPerOne_eq_cast, mul_div_cancel_right₀ _ unitsPerOne_pos.ne']

/-- Settles O53: a natural below `2^53` is a magnitude, and a magnitude is not rounded. -/
theorem conversionsExact : Obligations.ConversionsExact := by
  refine ⟨fun h => ?_, fun m hm => ?_, by decide +kernel, by decide +kernel⟩
  · have hlt : h.toInt.natAbs < 2 ^ 53 := by
      have h1 := h.toInt_lt
      have h2 := h.le_toInt
      omega
    obtain ⟨hf, hv⟩ := pack_roundMag_nat (decide (h.toInt < 0)) hlt
    refine ⟨hf, hv.trans ?_⟩
    rw [← decide_cast_neg, cast_natAbs_eq_abs, signFactor_decide_mul_abs]
  · obtain ⟨hf, hv⟩ := pack_roundMag_nat false hm
    exact ⟨hf, hv.trans (one_mul _)⟩

end Sys2Proof

/-! Proofs: comparison, magnitudes, the root of a square and the twiddle angle (R116, R117, R120, R130 P7). -/

namespace Sys2Proof

/-! ### Comparison (R117) -/

theorem natAbs_signedUnits_of_isInf {a : F64} (h : isInf a = true) : (signedUnits a).natAbs = magUnits infMag := by
  rw [natAbs_signedUnits, units_eq_magUnits, show magBits a = infMag from of_decide_eq_true h]

theorem natAbs_signedUnits_lt {a : F64} (h : isFinite a = true) : (signedUnits a).natAbs < magUnits infMag := by
  rw [natAbs_signedUnits, units_eq_magUnits]
  exact magUnits_strictMono (isFinite_iff.1 h)

theorem signedUnits_nonneg {a : F64} (h : signBit a = false) : 0 ≤ signedUnits a := by simp [signedUnits, h]

theorem signedUnits_nonpos {a : F64} (h : signBit a = true) : signedUnits a ≤ 0 := by simp [signedUnits, h]

theorem flt_iff {a b : F64} (ha : isNaN a = false) (hb : isNaN b = false) :
    flt a b = true ↔ signedUnits a < signedUnits b := by
  simp [flt, ha, hb]

theorem flt_eq_false_iff {a b : F64} (ha : isNaN a = false) (hb : isNaN b = false) :
    flt a b = false ↔ signedUnits b ≤ signedUnits a := by
  simp [flt, ha, hb]

theorem flt_iff_valueOf {a b : F64} (ha : isFinite a = true) (hb : isFinite b = true) :
    flt a b = true ↔ valueOf a < valueOf b := by
  rw [flt_iff (isNaN_of_isFinite ha) (isNaN_of_isFinite hb), valueOf_eq_div, valueOf_eq_div,
    div_lt_div_iff_of_pos_right unitsPerOne_pos, Int.cast_lt]

/-- What `flt` finds true is an order on the units of two data that are no NaN. -/
theorem flt_eq_true {a b : F64} (h : flt a b = true) :
    isNaN a = false ∧ isNaN b = false ∧ signedUnits a < signedUnits b := by
  simpa [flt, and_assoc] using h

/-- A finite datum lies between the infinities. -/
theorem flt_infinities {a : F64} (ha : isFinite a = true) :
    flt a 0x7FF0000000000000 = true ∧ flt 0xFFF0000000000000 a = true ∧
      flt 0x7FF0000000000000 a = false ∧ flt a 0xFFF0000000000000 = false := by
  have hn := isNaN_of_isFinite ha
  have hlt := natAbs_signedUnits_lt ha
  have hp := natAbs_signedUnits_of_isInf (a := 0x7FF0000000000000) (by decide)
  have hm := natAbs_signedUnits_of_isInf (a := 0xFFF0000000000000) (by decide)
  have hp0 := signedUnits_nonneg (a := 0x7FF0000000000000) (by decide)
  have hm0 := signedUnits_nonpos (a := 0xFFF0000000000000) (by decide)
  have hpn : isNaN 0x7FF0000000000000 = false := by decide
  have hmn : isNaN 0xFFF0000000000000 = false := by decide
  rw [flt_iff hn hpn, flt_iff hmn hn, flt_eq_false_iff hpn hn, flt_eq_false_iff hn hmn]
  omega

/-- Settles O54: on data that are no NaN `flt` is the order of their signed units. -/
theorem fltIsQuietLess : Obligations.FltIsQuietLess := by
  refine ⟨fun a b h => ?_, fun a b => flt_iff_valueOf, fun a => flt_infinities, fun a => ?_, fun a b c hab hbc => ?_⟩
  · exact h.elim (flt_nan_left b) (flt_nan_right a)
  · simp [flt]
  · obtain ⟨ha, -, hab⟩ := flt_eq_true hab
    obtain ⟨-, hc, hbc⟩ := flt_eq_true hbc
    exact (flt_iff ha hc).2 (hab.trans hbc)

/-! ### Magnitudes (R120) -/

/-- A NaN, or a datum without the sign bit. -/
def NotNegative (a : F64) : Prop := isNaN a = true ∨ signBit a = false

theorem notNegative_qnan (d : Nat) : NotNegative (qnan d) := .inl (isNaN_qnan d)

theorem notNegative_pack {s : Bool} {m : Nat} (hs : s = false) (hm : m ≤ infMag) : NotNegative (pack s m) :=
  .inr (by rw [signBit_pack (lt_of_le_infMag hm), hs])

theorem notNegative_ite {p : Prop} [Decidable p] {a b : F64} (ha : NotNegative a) (hb : NotNegative b) :
    NotNegative (if p then a else b) := by
  split
  · exact ha
  · exact hb

/-- A square has equal signs. -/
theorem notNegative_fmul_self (d : Nat) (a : F64) : NotNegative (fmul d a a) := by
  have hs : (signBit a != signBit a) = false := bne_self_eq_false _
  exact notNegative_ite (notNegative_qnan d) (notNegative_ite
    (notNegative_ite (notNegative_qnan d) (notNegative_pack hs le_rfl)) (notNegative_pack hs (roundMag_le _ _)))

theorem notNegative_fadd {a b : F64} (d : Nat) (ha : NotNegative a) (hb : NotNegative b) :
    NotNegative (fadd d a b) := by
  rcases ha with ha | ha
  · rw [fadd_nan d a b (.inl ha)]
    exact notNegative_qnan d
  rcases hb with hb | hb
  · rw [fadd_nan d a b (.inr hb)]
    exact notNegative_qnan d
  have hsum : decide (signedUnits a + signedUnits b < 0) = false :=
    decide_eq_false (add_nonneg (signedUnits_nonneg ha) (signedUnits_nonneg hb)).not_gt
  exact notNegative_ite (notNegative_qnan d) <| notNegative_ite (notNegative_ite (notNegative_qnan d) (.inr ha)) <|
    notNegative_ite (.inr hb) <| notNegative_ite (notNegative_pack (by rw [ha]; rfl) (Nat.zero_le _)) <|
      notNegative_pack hsum (roundMag_le _ _)

theorem notNegative_fsqrt {a : F64} (d : Nat) (ha : NotNegative a) : NotNegative (fsqrt d a) := by
  rcases ha with ha | ha
  · rw [fsqrt_nan d a ha]
    exact notNegative_qnan d
  · exact notNegative_ite (notNegative_qnan d) <| notNegative_ite (.inr ha) <|
      notNegative_ite (notNegative_qnan d) <| notNegative_ite (.inr ha) <| notNegative_pack rfl (roundMag_le _ _)

/-- On finite data the number of an operation is not looked at. -/
theorem fadd_draw {a b : F64} (d : Nat) (ha : isFinite a = true) (hb : isFinite b = true) :
    fadd d a b = fadd 0 a b := by
  rw [fadd_of_isFinite d ha hb, fadd_of_isFinite 0 ha hb]

theorem fmul_draw {a b : F64} (d : Nat) (ha : isFinite a = true) (hb : isFinite b = true) :
    fmul d a b = fmul 0 a b := by
  rw [fmul_of_isFinite d ha hb, fmul_of_isFinite 0 ha hb]

/-- Settles O55: squares have no sign, and sum and root keep it so; the example by evaluation. -/
theorem magnitudeNotNegative : Obligations.MagnitudeNotNegative := by
  refine ⟨fun d z => notNegative_fsqrt _ (notNegative_fadd _ (notNegative_fmul_self _ _) (notNegative_fmul_self _ _)),
    fun d => ?_⟩
  have h9 : fmul 0 0x4008000000000000 0x4008000000000000 = 0x4022000000000000 := by decide +kernel
  have h16 : fmul 0 0x4010000000000000 0x4010000000000000 = 0x4030000000000000 := by decide +kernel
  have h25 : fadd 0 0x4022000000000000 0x4030000000000000 = 0x4039000000000000 := by decide +kernel
  rw [cmag, fmul_draw _ (by decide) (by decide), h9, fmul_draw _ (by decide) (by decide), h16,
    fadd_draw _ (by decide) (by decide), h25, fsqrt_of_isFinite _ (by decide) (by decide) (by decide)]
  decide +kernel

/-! ### The root of a square (R130 P7) -/

/-- The midpoint below a magnitude in scaled form is half a step below it or nearer. -/
theorem le_midpoint2_of_succ {n q k : Nat} (hq : q ≤ 2 ^ 53) (hk : k = 0 ∨ 2 ^ 52 ≤ q) (hn : n + 1 = k * 2 ^ 52 + q) :
    2 * (q * 2 ^ k) ≤ midpoint2 n + 2 ^ k := by
  by_cases htop : k = 0 ∨ 2 ^ 52 < q
  · obtain ⟨p, rfl⟩ : ∃ p, q = p + 1 := ⟨q - 1, by omega⟩
    obtain rfl : n = k * 2 ^ 52 + p := by omega
    rw [midpoint2_scaled (by omega) (by omega)]
    apply le_of_eq
    ring
  · obtain ⟨k, rfl⟩ : ∃ j, k = j + 1 := ⟨k - 1, by omega⟩
    obtain rfl : q = 2 ^ 52 := by omega
    obtain rfl : n = k * 2 ^ 52 + (2 ^ 53 - 1) := by omega
    have hp := Nat.two_pow_pos k
    rw [midpoint2_scaled (by norm_num) (.inr (by norm_num)), pow_succ 2 k]
    omega

/-- The relative error of a rounding to a normal number is at most `2^-53`. -/
theorem RoundsToMag.relative_error {X : ℝ} {m : Nat} (h : RoundsToMag X m) (h0 : 2 ^ 52 ≤ m) (hm : m < infMag) :
    (2 ^ 53 - 1) * (magUnits m : ℝ) ≤ 2 ^ 53 * X ∧ 2 ^ 53 * X ≤ (2 ^ 53 + 1) * (magUnits m : ℝ) := by
  have hstay := h.stays.le_midpoint2 hm
  obtain ⟨n, rfl⟩ : ∃ n, m = n + 1 := ⟨m - 1, by omega⟩
  have hreach := h.reaches.midpoint2_le
  obtain ⟨q, k, hq, hk, hn⟩ := exists_scaled (n + 1)
  have hq52 : 2 ^ 52 ≤ q := by omega
  have hlow : (2 * (q * 2 ^ k) : ℝ) ≤ midpoint2 n + 2 ^ k := by exact_mod_cast le_midpoint2_of_succ hq.le hk hn
  rw [hn, midpoint2_scaled hq hk] at hstay
  rw [hn, magUnits_scaled hq.le hk]
  have hstep : (2 : ℝ) ^ 52 * 2 ^ k ≤ q * 2 ^ k := by
    exact_mod_cast Nat.mul_le_mul_right (2 ^ k) hq52
  push_cast at hstay ⊢
  constructor <;> linarith

/-- The rounded root of a rounded square is the number squared. -/
theorem roundsToMag_root_of_square {q k : Nat} {Y : ℝ} (hq : q < 2 ^ 53) (hq52 : 2 ^ 52 ≤ q)
    (hY : (2 : ℝ) ^ (52 + k) * 2 ^ (52 + k) ≤ Y)
    (hlow : (2 ^ 53 - 1) * Y ≤ 2 ^ 53 * (q * 2 ^ k * (q * 2 ^ k)))
    (hhigh : 2 ^ 53 * (q * 2 ^ k * (q * 2 ^ k)) ≤ (2 ^ 53 + 1) * Y) : RoundsToMag √Y (min (k * 2 ^ 52 + q) infMag) := by
  have hK : (0 : ℝ) < 2 ^ k := by positivity
  have hq' : (q : ℝ) + 1 ≤ 2 ^ 53 := by exact_mod_cast hq
  have hq52' : (2 : ℝ) ^ 52 ≤ q := by exact_mod_cast hq52
  have hsq : (0 : ℝ) ≤ q * (2 ^ 53 - 1 - q) := mul_nonneg (by positivity) (by linarith)
  have hS : (0 : ℝ) < 2 ^ k * 2 ^ k := by positivity
  have hup : √Y < (q + 1 / 2) * 2 ^ k := by
    rw [Real.sqrt_lt' (by positivity), sq]
    have h : (2 : ℝ) ^ 53 * (q * q) < (2 ^ 53 - 1) * ((q + 1 / 2) * (q + 1 / 2)) := by linarith
    linarith [mul_lt_mul_of_pos_right h hS]
  have hdown : (q - 1 / 2) * 2 ^ k < √Y := by
    rw [Real.lt_sqrt (mul_nonneg (by linarith) hK.le), sq]
    have h : (2 ^ 53 + 1) * (((q : ℝ) - 1 / 2) * (q - 1 / 2)) < 2 ^ 53 * (q * q) := by linarith
    linarith [mul_lt_mul_of_pos_right h hS]
  refine roundsToMag_scaled (.inr (Real.le_sqrt_of_sq_le (by rw [sq]; exact hY))) ?_ (.inl ?_) (.inl ?_)
  · rw [pow_add]
    linarith [mul_lt_mul_of_pos_right (show (q : ℝ) + 1 / 2 < 2 ^ 53 by linarith) hK]
  · linarith
  · linarith

/-- A square that neither overflows nor underflows is rounded to a normal number, between the squares of the powers of
two around the root. -/
theorem roundMag_square_bounds {q e : Nat} (hq : q < 2 ^ 53) (hq52 : 2 ^ 52 ≤ q) (he : e ≤ 1021) :
    2 * e * 2 ^ 52 + 2 ^ 52 ≤ roundMag (q * 2 ^ (e + 511) * (q * 2 ^ (e + 511))) (2 ^ 1074) ∧
      roundMag (q * 2 ^ (e + 511) * (q * 2 ^ (e + 511))) (2 ^ 1074) ≤ (2 * e + 2) * 2 ^ 52 + 2 ^ 52 := by
  have hrounds := roundMag_rounds (num := q * 2 ^ (e + 511) * (q * 2 ^ (e + 511))) (den := 2 ^ 1074) (by positivity)
  have hsplit : q * 2 ^ (e + 511) * (q * 2 ^ (e + 511)) = q * q * 2 ^ (2 * e + 1022) := by
    rw [mul_mul_mul_comm, ← pow_add, show e + 511 + (e + 511) = 2 * e + 1022 by omega]
  rw [← unitsPerOne_eq_cast] at hrounds
  constructor
  · refine RoundsToMag.mono ?_ (roundsToMag_magUnits (by rw [infMag]; omega)) hrounds
    rw [magUnits_scaled (by norm_num) (.inr le_rfl), le_div_iff₀ unitsPerOne_pos, unitsPerOne_eq_cast, ← Nat.cast_mul,
      Nat.cast_le, hsplit]
    calc 2 ^ 52 * 2 ^ (2 * e) * 2 ^ 1074 = 2 ^ 52 * 2 ^ 52 * 2 ^ (2 * e + 1022) := by
          simp only [← pow_add]
          exact congrArg (2 ^ ·) (by omega)
      _ ≤ q * q * 2 ^ (2 * e + 1022) := Nat.mul_le_mul_right _ (Nat.mul_le_mul hq52 hq52)
  · refine RoundsToMag.mono ?_ hrounds (roundsToMag_magUnits (by rw [infMag]; omega))
    rw [magUnits_scaled (by norm_num) (.inr le_rfl), div_le_iff₀ unitsPerOne_pos, unitsPerOne_eq_cast, ← Nat.cast_mul,
      Nat.cast_le, hsplit]
    calc q * q * 2 ^ (2 * e + 1022) ≤ 2 ^ 53 * 2 ^ 53 * 2 ^ (2 * e + 1022) :=
          Nat.mul_le_mul_right _ (Nat.mul_le_mul hq.le hq.le)
      _ = 2 ^ 52 * 2 ^ (2 * e + 2) * 2 ^ 1074 := by
          simp only [← pow_add]
          exact congrArg (2 ^ ·) (by omega)

theorem lt_of_two_pow_le_scaled {q k j : Nat} (hq : q < 2 ^ 53) (h : 2 ^ (53 + j) ≤ q * 2 ^ k) : j < k := by
  by_contra hle
  have hlt := Nat.mul_lt_mul_of_lt_of_le hq (Nat.pow_le_pow_right two_pos (not_lt.1 hle)) (by positivity)
  rw [← pow_add] at hlt
  exact absurd h hlt.not_ge

theorem lt_of_scaled_lt_two_pow {q k j : Nat} (hq : 2 ^ 52 ≤ q) (h : q * 2 ^ k < 2 ^ (52 + j)) : k < j := by
  by_contra hle
  have hge := Nat.mul_le_mul hq (Nat.pow_le_pow_right two_pos (not_lt.1 hle))
  rw [← pow_add] at hge
  exact absurd h hge.not_gt

/-- Of a square that neither overflows nor underflows the rounded root is the magnitude squared. -/
theorem sqrtMag_roundMag_square {m : Nat} (hlow : 2 ^ (53 + 510) ≤ magUnits m)
    (hhigh : magUnits m < 2 ^ (52 + 1533)) :
    0 < roundMag (magUnits m * magUnits m) (2 ^ 1074) ∧ roundMag (magUnits m * magUnits m) (2 ^ 1074) < infMag ∧
      sqrtMag (magUnits (roundMag (magUnits m * magUnits m) (2 ^ 1074))) = m := by
  obtain ⟨q, k, hq, hk, rfl⟩ := exists_scaled m
  have hP := unitsPerOne_pos
  rw [magUnits_scaled hq.le hk] at *
  have hk511 : 510 < k := lt_of_two_pow_le_scaled hq hlow
  have hq52 : 2 ^ 52 ≤ q := hk.resolve_left (by omega)
  have hk1533 : k < 1533 := lt_of_scaled_lt_two_pow hq52 hhigh
  clear hlow hhigh
  obtain ⟨e, rfl⟩ := Nat.exists_eq_add_of_le' hk511
  have hle : (e + 511) * 2 ^ 52 + q ≤ infMag := by
    rw [infMag]
    omega
  obtain ⟨hpl, hph⟩ := roundMag_square_bounds hq hq52 (show e ≤ 1021 by omega)
  have hrounds := roundMag_rounds (num := q * 2 ^ (e + 511) * (q * 2 ^ (e + 511))) (den := 2 ^ 1074) (by positivity)
  generalize roundMag (q * 2 ^ (e + 511) * (q * 2 ^ (e + 511))) (2 ^ 1074) = p at *
  have hpinf : p < infMag := by rw [infMag]; omega
  have hp : (2 : ℝ) ^ 52 * 2 ^ (2 * e) ≤ magUnits p := by
    have h := magUnits_cast_le hpl
    rw [magUnits_scaled (by norm_num) (.inr le_rfl)] at h
    exact_mod_cast h
  obtain ⟨hrl, hrh⟩ := hrounds.relative_error (by omega) hpinf
  rw [← unitsPerOne_eq_cast, mul_div_assoc', le_div_iff₀ hP] at hrl
  rw [← unitsPerOne_eq_cast, mul_div_assoc', div_le_iff₀ hP] at hrh
  push_cast at hrl hrh
  rw [mul_assoc (2 ^ 53 - 1 : ℝ)] at hrl
  rw [mul_assoc (2 ^ 53 + 1 : ℝ)] at hrh
  have hY : (2 : ℝ) ^ (52 + (e + 511)) * 2 ^ (52 + (e + 511)) ≤ magUnits p * unitsPerOne := by
    calc (2 : ℝ) ^ (52 + (e + 511)) * 2 ^ (52 + (e + 511)) = 2 ^ 52 * 2 ^ (2 * e) * unitsPerOne := by
          simp only [unitsPerOne, ← pow_add]
          exact congrArg (fun n : Nat => (2 : ℝ) ^ n) (by omega)
      _ ≤ magUnits p * unitsPerOne := mul_le_mul_of_nonneg_right hp hP.le
  have hroot := roundsToMag_root_of_square hq hq52 hY hrl hrh
  rw [min_eq_left hle] at hroot
  have hpos : 0 < magUnits p := by
    rw [← magUnits_zero]
    exact magUnits_strictMono (by omega)
  exact ⟨by omega, hpinf, (sqrtMag_rounds hpos).unique hroot⟩

/-- Settles O59: the square is rounded to a normal number, whose relative error the root halves. -/
theorem sqrtOfSquare : Obligations.SqrtOfSquare := by
  intro d e x hx hlow hhigh
  have hP := unitsPerOne_pos
  rw [abs_valueOf, div_le_div_iff₀ (by positivity) hP, one_mul] at hlow
  rw [abs_valueOf, div_lt_iff₀ hP] at hhigh
  have hlow : 2 ^ (53 + 510) ≤ magUnits (magBits x) := by
    refine Nat.le_of_mul_le_mul_right (c := 2 ^ 511) ?_ (by positivity)
    rw [← pow_add, ← Nat.cast_le (α := ℝ), Nat.cast_pow, Nat.cast_ofNat, Nat.cast_mul, Nat.cast_pow, Nat.cast_ofNat]
    exact hlow
  have hhigh : magUnits (magBits x) < 2 ^ (52 + 1533) := by
    rw [← Nat.cast_lt (α := ℝ), Nat.cast_pow, Nat.cast_ofNat, show 52 + 1533 = 511 + 1074 from rfl, pow_add]
    exact hhigh
  obtain ⟨hpos, hpinf, hroot⟩ := sqrtMag_roundMag_square hlow hhigh
  have hp63 := lt_of_le_infMag hpinf.le
  rw [fmul_of_isFinite d hx hx, bne_self_eq_false, units_eq_magUnits,
    fsqrt_of_isFinite e (isFinite_iff.2 (by rwa [magBits_pack hp63])) (by rw [magBits_pack hp63]; exact hpos.ne')
      (signBit_pack hp63), units_eq_magUnits, magBits_pack hp63, hroot]
  have hm : magBits x < 2 ^ 63 := Nat.mod_lt _ (by norm_num)
  refine BitVec.eq_of_toNat_eq ?_
  rw [pack_toNat hm, BitVec.toNat_and]
  exact (Nat.zero_add _).trans (Nat.and_two_pow_sub_one_eq_mod x.toNat 63).symm

/-! ### The twiddle angle (R116) -/

theorem units_ofNat {m : Nat} (hm : m < 2 ^ 53) : isFinite (ofNat m) = true ∧ signBit (ofNat m) = false ∧
    units (ofNat m) = m * 2 ^ 1074 := by
  obtain ⟨p, hp, hu⟩ := exists_magUnits_eq hm
  have hp63 := lt_of_le_infMag hp.le
  rw [ofNat, roundMag_exact hp.le one_pos (by rw [hu, mul_one])]
  exact ⟨isFinite_iff.2 (by rwa [magBits_pack hp63]), signBit_pack hp63, by
    rw [units_eq_magUnits, magBits_pack hp63, hu]⟩

/-- Settles O57: division by a power of two takes from the exponent. -/
theorem twiddleAngleExact : Obligations.TwiddleAngleExact := by
  intro d s h1 h30
  obtain ⟨hf, hs, hu⟩ := units_ofNat (m := 2 ^ s) (Nat.pow_lt_pow_right one_lt_two (by omega))
  have hpi : isFinite fTwoPi = true ∧ signBit fTwoPi = false ∧ magBits fTwoPi = 1024 * 2 ^ 52 + 0x1921FB54442D18 := by
    decide
  obtain ⟨hpf, hps, hpm⟩ := hpi
  have hm : magUnits ((1024 - s) * 2 ^ 52 + 0x1921FB54442D18) * 2 ^ s = units fTwoPi := by
    rw [units_eq_magUnits, hpm, magUnits_scaled (by norm_num) (.inr (by norm_num)),
      magUnits_scaled (by norm_num) (.inr (by norm_num)), mul_assoc, ← pow_add, Nat.sub_add_cancel (by omega)]
  rw [tang, fdiv_of_isFinite d hpf hf (by rw [hu]; positivity), hps, hs, hu,
    roundMag_exact (m := (1024 - s) * 2 ^ 52 + 0x1921FB54442D18) (by rw [infMag]; omega) (by positivity)
      (by rw [← hm, mul_assoc])]
  refine congrArg (BitVec.ofNat 64) ?_
  simp only [bne_self_eq_false, Bool.false_eq_true, if_false]
  omega

end Sys2Proof

/-! Proofs: the reference cosine and sine where they are tabulated (R116, R130 P9, P10). -/

namespace Sys2Proof

/-! ### Tables (R116, R130 P9 and P10) -/

theorem fdiv_draw {a b : F64} (d : Nat) (ha : isFinite a = true) (hb : isFinite b = true) (h0 : units b ≠ 0) :
    fdiv d a b = fdiv 0 a b := by
  rw [fdiv_of_isFinite d ha hb h0, fdiv_of_isFinite 0 ha hb h0]

/-- A Hann angle does not look at the numbers of its operations. -/
theorem hannAngle_default_draw (d : Nat) {i : Nat} (hi : isFinite (ofNat i) = true)
    (hf : isFinite (fmul 0 fTwoPi (ofNat i)) = true) : hannAngle .default d i = hannAngle .default 0 i := by
  have hN : isFinite (ofNat (Config.default.blockSize - 1)) = true := by decide +kernel
  have hN0 : units (ofNat (Config.default.blockSize - 1)) ≠ 0 := by decide +kernel
  have hpi : isFinite fTwoPi = true := by decide
  rw [hannAngle, hannAngle, fmul_draw d hpi hi, fdiv_draw _ hf hN hN0, fdiv_draw (0 + 1) hf hN hN0]

/-- Where the cosine is 1 the Hann coefficient is `+0.0`. -/
theorem hann_default_eq_zero {d i : Nat} (h : refCos (hannAngle .default d i) = fOne) : hann .default d i = fZero := by
  have hcos : numCos .default (hannAngle .default d i) = fOne := h
  have hsub : fsub (d + 2) fOne fOne = fZero := (zeroSigns (d + 2) fOne fOne (by decide) (by decide)).1
  rw [hann, hcos, hsub, fmul_draw _ (by decide) (by decide)]
  decide +kernel

/-- Settles O58: the cosines by evaluation at the angles of both ends. -/
theorem windowEndsAreZero : Obligations.WindowEndsAreZero := by
  have h0 : refCos fZero = fOne := by decide +kernel
  have h2pi : refCos 0x401921FB54442D18 = fOne := by decide +kernel
  have hfirst : hannAngle .default 0 0 = fZero := by decide +kernel
  have hlast : hannAngle .default 0 4095 = 0x401921FB54442D18 := by decide +kernel
  refine ⟨h0, h2pi, by decide +kernel, fun d => ⟨hann_default_eq_zero ?_, hann_default_eq_zero ?_⟩⟩
  · rw [hannAngle_default_draw d (by decide +kernel) (by decide +kernel), hfirst, h0]
  · rw [hannAngle_default_draw d (by decide +kernel) (by decide +kernel), hlast, h2pi]

/-- The reference values at the angles of the 30 passes, evaluated. -/
theorem twiddles_eq_reference : ∀ s < 30, (twiddlesLow ++ twiddlesHigh)[s]? =
    some ⟨refCos (BitVec.ofNat 64 (0x400921FB54442D18 - s * 0x0010000000000000)),
      refSin (BitVec.ofNat 64 (0x400921FB54442D18 - s * 0x0010000000000000))⟩ := by
  decide +kernel

/-- Settles O60: the angle is exact, and the table holds the reference values there. -/
theorem twiddleTable : Obligations.TwiddleTable := by
  intro c d s hc h1 h30
  rw [twiddles_eq_reference (s - 1) (by omega), twiddleOf, twiddleAngleExact d s h1 h30, numCos, numSin, hc]

end Sys2Proof

/-! Proofs: the constant `halfPi` is `pi / 2` rounded down (R115): Machin's formula, the arctangent's series and the
error of `arctanInv`. -/

namespace Sys2Proof

/-! ### Alternating sums by the model's recursion -/

/-- `c k - c (k + 2) + c (k + 4) - ...`, `fuel` terms. -/
noncomputable def alternatingSum (c : Nat → ℝ) : (fuel k : Nat) → ℝ
  | 0, _ => 0
  | fuel + 1, k => c k - alternatingSum c fuel (k + 2)

theorem alternatingSum_succ (c : Nat → ℝ) (fuel k : Nat) :
    alternatingSum c (fuel + 1) k = c k - alternatingSum c fuel (k + 2) := rfl

theorem alternatingSum_eq_sum (c : Nat → ℝ) (fuel k : Nat) :
    alternatingSum c fuel k = ∑ j ∈ Finset.range fuel, (-1) ^ j * c (2 * j + k) := by
  induction fuel generalizing k with
  | zero => rfl
  | succ fuel ih =>
    have hterm : ∀ j, (-1 : ℝ) ^ (j + 1) * c (2 * (j + 1) + k) = -((-1) ^ j * c (2 * j + (k + 2))) := fun j => by
      rw [pow_succ, show 2 * (j + 1) + k = 2 * j + (k + 2) by ring]
      ring
    rw [alternatingSum_succ, ih, Finset.sum_range_succ']
    simp only [hterm, Finset.sum_neg_distrib, pow_zero, one_mul, mul_zero, zero_add]
    ring

/-! ### `arctanInv` -/

/-- A quotient of naturals loses less than 1. -/
theorem cast_div_bounds (a : Nat) {b : Nat} (hb : 0 < b) :
    ((a / b : Nat) : ℝ) ≤ (a : ℝ) / b ∧ (a : ℝ) / b < ((a / b : Nat) : ℝ) + 1 := by
  have h : ((a / b : Nat) : ℝ) = ⌊(a : ℝ) / b⌋₊ := by rw [Nat.floor_div_eq_div]
  rw [h]
  exact ⟨Nat.floor_le (by positivity), Nat.lt_floor_add_one _⟩

/-- The coefficients of the arctangent's series at `1 / n`. -/
noncomputable def arctanCoeff (n k : Nat) : ℝ := 1 / (n ^ k * k)

/-- Each term of `arctanInv` loses less than 1, whatever has been cut before. -/
theorem abs_arctanInv_sub_le {n : Nat} (hn : 0 < n) (S fuel : Nat) {k : Nat} (hk : 0 < k) :
    |(arctanInv n fuel k (S / n ^ k) : ℝ) - S * alternatingSum (arctanCoeff n) fuel k| ≤ fuel := by
  induction fuel generalizing k with
  | zero => simp [arctanInv, alternatingSum]
  | succ fuel ih =>
    obtain ⟨hihl, hihr⟩ := abs_le.1 (ih (k := k + 2) (by omega))
    obtain ⟨hle, hlt⟩ := cast_div_bounds S (b := n ^ k * k) (by positivity)
    have hhead : (S : ℝ) / (n ^ k * k : Nat) = S * arctanCoeff n k := by
      rw [arctanCoeff, mul_one_div]
      push_cast
      rfl
    rw [hhead] at hle hlt
    rw [arctanInv, alternatingSum_succ, Nat.div_div_eq_div_mul, Nat.div_div_eq_div_mul,
      show n ^ k * (n * n) = n ^ (k + 2) by ring, Int.cast_sub, Int.cast_natCast, Nat.cast_add, Nat.cast_one, abs_le]
    constructor <;> linarith

theorem arctanCoeff_odd (n j : Nat) : arctanCoeff n (2 * j + 1) = ((n : ℝ)⁻¹) ^ (2 * j + 1) / (2 * j + 1 : Nat) := by
  rw [arctanCoeff, inv_pow, inv_eq_one_div, div_div]

/-- The series at `1 / n` with `2 * m` terms is below the arctangent by less than the next term. -/
theorem alternatingSum_arctan_bounds {n : Nat} (hn : 1 < n) (m : Nat) :
    alternatingSum (arctanCoeff n) (2 * m) 1 ≤ Real.arctan (n : ℝ)⁻¹ ∧
      Real.arctan (n : ℝ)⁻¹ ≤ alternatingSum (arctanCoeff n) (2 * m) 1 + arctanCoeff n (4 * m + 1) := by
  have hn' : (1 : ℝ) < n := by exact_mod_cast hn
  have hx : ‖(n : ℝ)⁻¹‖ < 1 := by
    rw [norm_inv, RCLike.norm_natCast]
    exact inv_lt_one_of_one_lt₀ hn'
  have hanti : Antitone fun j : Nat => arctanCoeff n (2 * j + 1) := by
    refine antitone_nat_of_succ_le fun j => ?_
    have hpow : (n : ℝ) ^ (2 * j + 1) ≤ n ^ (2 * (j + 1) + 1) := pow_le_pow_right₀ hn'.le (by omega)
    have hk : ((2 * j + 1 : Nat) : ℝ) ≤ (2 * (j + 1) + 1 : Nat) := by exact_mod_cast (by omega)
    exact one_div_le_one_div_of_le (by positivity) (mul_le_mul hpow hk (by positivity) (by positivity))
  have hlim : Filter.Tendsto (fun N => ∑ j ∈ Finset.range N, (-1) ^ j * arctanCoeff n (2 * j + 1)) Filter.atTop
      (nhds (Real.arctan (n : ℝ)⁻¹)) := by
    simp only [arctanCoeff_odd, ← mul_div_assoc]
    exact (Real.hasSum_arctan hx).tendsto_sum_nat
  have hlow := hanti.alternating_series_le_tendsto hlim m
  have hhigh := hanti.tendsto_le_alternating_series hlim m
  rw [Finset.sum_range_succ, pow_mul, neg_one_sq, one_pow, one_mul, show 2 * (2 * m) + 1 = 4 * m + 1 by ring] at hhigh
  rw [alternatingSum_eq_sum]
  exact ⟨hlow, hhigh⟩

/-- The arctangent of `1 / n` scaled by `S`, up to one unit for each term. -/
theorem abs_arctanInv_sub_arctan_le {n S : Nat} (hn : 1 < n) (m : Nat) (hS : S ≤ n ^ (4 * m + 1) * (4 * m + 1)) :
    |(arctanInv n (2 * m) 1 (S / n) : ℝ) - S * Real.arctan (n : ℝ)⁻¹| ≤ 2 * m + 1 := by
  have herr := abs_arctanInv_sub_le (by omega : 0 < n) S (2 * m) one_pos
  obtain ⟨hlow, hhigh⟩ := alternatingSum_arctan_bounds hn m
  have hS0 : (0 : ℝ) ≤ S := Nat.cast_nonneg S
  have hnext : S * arctanCoeff n (4 * m + 1) ≤ 1 := by
    rw [arctanCoeff, mul_one_div]
    refine div_le_one_of_le₀ ?_ (by positivity)
    exact_mod_cast hS
  have hlow := mul_le_mul_of_nonneg_left hlow hS0
  have hhigh := mul_le_mul_of_nonneg_left hhigh hS0
  rw [pow_one, Nat.cast_mul, Nat.cast_ofNat] at herr
  rw [abs_le] at herr ⊢
  obtain ⟨herrl, herrr⟩ := herr
  constructor <;> linarith

/-! ### Machin's formula -/

/-- `machinHalfPi` is `pi / 2` to 1472 fractional bits, up to its cut terms. -/
theorem abs_machinHalfPi_sub_le : |(machinHalfPi : ℝ) - (2 ^ (piBits + 64) : Nat) * (Real.pi / 2)| ≤ 3310 := by
  have h5 := abs_arctanInv_sub_arctan_le (n := 5) (S := 2 ^ (piBits + 64)) (by norm_num) 165 (by decide +kernel)
  have h239 := abs_arctanInv_sub_arctan_le (n := 239) (S := 2 ^ (piBits + 64)) (by norm_num) 165 (by decide +kernel)
  have hpi : Real.pi / 2 = 8 * Real.arctan ((5 : Nat) : ℝ)⁻¹ - 2 * Real.arctan ((239 : Nat) : ℝ)⁻¹ := by
    have h := Real.four_mul_arctan_inv_5_sub_arctan_inv_239
    push_cast
    linarith
  rw [hpi]
  simp only [machinHalfPi, Int.cast_sub, Int.cast_mul, Int.cast_ofNat, abs_le] at h5 h239 ⊢
  generalize 2 ^ (piBits + 64) = S at *
  obtain ⟨h5l, h5r⟩ := h5
  obtain ⟨h239l, h239r⟩ := h239
  constructor <;> linarith

/-- `halfPi` is `pi / 2` with `piBits` fractional bits, rounded down. -/
theorem halfPi_bounds : (halfPi : ℝ) ≤ (2 ^ piBits : Nat) * (Real.pi / 2) ∧
    (2 ^ piBits : Nat) * (Real.pi / 2) ≤ halfPi + 1 := by
  obtain ⟨hdiv, hlow, hhigh⟩ := halfPi_eq_machin
  have hsplit := Int.mul_ediv_add_emod machinHalfPi (2 ^ 64)
  rw [hdiv] at hsplit
  have herr := abs_machinHalfPi_sub_le
  rw [← hsplit, pow_add, abs_le] at herr
  generalize machinHalfPi % 2 ^ 64 = r at *
  generalize 2 ^ piBits = S at *
  have hlow : (2 : ℝ) ^ 62 < r := by exact_mod_cast hlow
  have hhigh : (r : ℝ) < 2 ^ 63 := by exact_mod_cast hhigh
  rw [Int.cast_add, Int.cast_mul, Int.cast_natCast, Nat.cast_mul] at herr
  push_cast at herr
  obtain ⟨herrl, herrr⟩ := herr
  constructor <;> linarith

end Sys2Proof

/-! Proofs: the fixed-point cosine and sine of a number below a quarter turn are near the exact values (R115). -/

namespace Sys2Proof

/-! ### The Taylor sums -/

/-- The terms of the series of cosine and sine. -/
noncomputable def taylorCoeff (x : ℝ) (k : Nat) : ℝ := x ^ k / k.factorial

/-- The exponential's series at `x * I` is the two series side by side. -/
theorem sum_exp_mul_I (x : ℝ) (m : Nat) :
    ∑ j ∈ Finset.range (2 * m), (x * Complex.I) ^ j / (j.factorial : ℂ) =
      (alternatingSum (taylorCoeff x) m 0 : ℂ) + (alternatingSum (taylorCoeff x) m 1 : ℂ) * Complex.I := by
  simp only [alternatingSum_eq_sum]
  induction m with
  | zero => simp
  | succ m ih =>
    have heven : (x * Complex.I) ^ (2 * m) = (-1) ^ m * (x : ℂ) ^ (2 * m) := by
      rw [mul_pow, pow_mul Complex.I, Complex.I_sq, mul_comm]
    rw [show 2 * (m + 1) = 2 * m + 1 + 1 by ring, Finset.sum_range_succ, Finset.sum_range_succ, ih,
      Finset.sum_range_succ, Finset.sum_range_succ, pow_succ (x * Complex.I), heven]
    simp only [taylorCoeff, add_zero]
    push_cast
    ring

/-- The error of the sums with `m` terms. -/
theorem abs_taylorSum_sub_le {x : ℝ} {m : Nat} (hx : |x| ≤ m) :
    |Real.cos x - alternatingSum (taylorCoeff x) m 0| ≤ |x| ^ (2 * m) / (2 * m).factorial * 2 ∧
      |Real.sin x - alternatingSum (taylorCoeff x) m 1| ≤ |x| ^ (2 * m) / (2 * m).factorial * 2 := by
  have hnorm : ‖(x : ℂ) * Complex.I‖ = |x| := by simp
  have hbound : ‖(x : ℂ) * Complex.I‖ / (2 * m).succ ≤ 1 / 2 := by
    rw [hnorm, div_le_iff₀ (by positivity)]
    push_cast
    linarith
  have h := Complex.exp_bound' hbound
  rw [sum_exp_mul_I, hnorm] at h
  have hre := (Complex.abs_re_le_norm _).trans h
  have him := (Complex.abs_im_le_norm _).trans h
  simpa using And.intro hre him

/-! ### The error of `taylor` -/

/-- 1 in fixed point. -/
noncomputable def fixOne : ℝ := (2 ^ fixBits : Nat)

theorem fixOne_pos : 0 < fixOne := Nat.cast_pos.2 (Nat.two_pow_pos _)

theorem fixOne_mul_cast_le {m n : Nat} (h : 2 ^ fixBits * m ≤ n) : fixOne * m ≤ n := by
  rw [fixOne, ← Nat.cast_mul]
  exact Nat.cast_le.2 h

theorem cast_le_mul_fixOne {m n : Nat} (h : m ≤ n * 2 ^ fixBits) : (m : ℝ) ≤ n * fixOne := by
  rw [fixOne, ← Nat.cast_mul]
  exact Nat.cast_le.2 h

theorem taylorCoeff_add_two (x : ℝ) (k : Nat) :
    taylorCoeff x (k + 2) = taylorCoeff x k * (x * x) / ((k + 1) * (k + 2) : Nat) := by
  have h : ((k + 2).factorial : ℝ) = k.factorial * ((k + 1) * (k + 2) : Nat) := by
    rw [Nat.factorial_succ, Nat.factorial_succ]
    push_cast
    ring
  rw [taylorCoeff, taylorCoeff, h, pow_add, sq, div_mul_eq_mul_div, div_div]

theorem taylorCoeff_nonneg {x : ℝ} (hx : 0 ≤ x) (k : Nat) : 0 ≤ taylorCoeff x k := by
  unfold taylorCoeff
  positivity

theorem taylorCoeff_le {x : ℝ} (hx : 0 ≤ x) (hx2 : x ≤ 2) (k : Nat) : taylorCoeff x k ≤ 8 := by
  have h1 : Real.exp 1 ≤ 2.8 := Real.exp_one_lt_d9.le.trans (by norm_num)
  calc taylorCoeff x k ≤ Real.exp x := Real.pow_div_factorial_le_exp x hx k
    _ ≤ Real.exp (1 + 1) := Real.exp_le_exp.2 (by linarith)
    _ = Real.exp 1 * Real.exp 1 := Real.exp_add 1 1
    _ ≤ 2.8 * 2.8 := mul_le_mul h1 h1 (Real.exp_pos 1).le (by norm_num)
    _ ≤ 8 := by norm_num

/-- One term from the one before, in fixed point: it stays below the exact term, and the shortfall `e` at most doubles
but for a constant. -/
theorem taylor_term_bounds {x e : ℝ} {x2 k t : Nat} (hx : 0 ≤ x) (hx2 : x ≤ 2) (hlow : (x2 : ℝ) ≤ x * x * fixOne)
    (hhigh : x * x * fixOne ≤ x2 + 1) (ht : (t : ℝ) ≤ fixOne * taylorCoeff x k)
    (ht' : fixOne * taylorCoeff x k ≤ t + e) :
    ((t * x2 / 2 ^ fixBits / ((k + 1) * (k + 2)) : Nat) : ℝ) ≤ fixOne * taylorCoeff x (k + 2) ∧
      fixOne * taylorCoeff x (k + 2) ≤ ((t * x2 / 2 ^ fixBits / ((k + 1) * (k + 2)) : Nat) : ℝ) + (2 * e + 5) := by
  have hF := fixOne_pos
  have hc := taylorCoeff_le hx hx2 k
  obtain ⟨hq, hq'⟩ := cast_div_bounds (t * x2) (b := 2 ^ fixBits * ((k + 1) * (k + 2))) (by positivity)
  have hD : (2 : ℝ) ≤ ((k + 1) * (k + 2) : Nat) := by exact_mod_cast (by nlinarith : 2 ≤ (k + 1) * (k + 2))
  have hcast : ((2 ^ fixBits * ((k + 1) * (k + 2)) : Nat) : ℝ) = fixOne * ((k + 1) * (k + 2) : Nat) := Nat.cast_mul _ _
  rw [Nat.div_div_eq_div_mul, taylorCoeff_add_two]
  rw [hcast, Nat.cast_mul t x2] at hq hq'
  generalize (((k + 1) * (k + 2) : Nat) : ℝ) = D at *
  generalize ((t * x2 / (2 ^ fixBits * ((k + 1) * (k + 2))) : Nat) : ℝ) = q at *
  generalize taylorCoeff x k = c at *
  have ht0 : (0 : ℝ) ≤ t := Nat.cast_nonneg t
  have hDpos : 0 < D := by linarith
  have hxx : x * x ≤ 4 := by nlinarith
  have hexact : fixOne * (c * (x * x) / D) = fixOne * c * (x * x * fixOne) / (fixOne * D) := by
    field_simp
  rw [hexact]
  constructor
  · refine hq.trans (div_le_div_of_nonneg_right ?_ (by positivity))
    exact mul_le_mul ht hlow (Nat.cast_nonneg _) (ht0.trans ht)
  · have hterm : fixOne * c * (x * x * fixOne) ≤ t * x2 + (4 * e + 8) * fixOne := by
      have h1 : fixOne * c * (x * x * fixOne) ≤ (t + e) * (x * x * fixOne) :=
        mul_le_mul_of_nonneg_right ht' (by positivity)
      have h2 : t * (x * x * fixOne) ≤ t * (x2 + 1) := mul_le_mul_of_nonneg_left hhigh ht0
      have h3 : e * (x * x * fixOne) ≤ e * (4 * fixOne) :=
        mul_le_mul_of_nonneg_left (mul_le_mul_of_nonneg_right hxx hF.le) (by linarith)
      have h4 : (t : ℝ) ≤ 8 * fixOne := ht.trans (by nlinarith)
      linarith
    have hcut : (4 * e + 8) * fixOne / (fixOne * D) ≤ 2 * e + 4 := by
      have he : 0 ≤ (2 * e + 4) * fixOne := mul_nonneg (by linarith) hF.le
      rw [div_le_iff₀ (by positivity)]
      linarith [mul_le_mul_of_nonneg_left hD he]
    calc fixOne * c * (x * x * fixOne) / (fixOne * D)
        ≤ (t * x2 + (4 * e + 8) * fixOne) / (fixOne * D) := div_le_div_of_nonneg_right hterm (by positivity)
      _ = t * x2 / (fixOne * D) + (4 * e + 8) * fixOne / (fixOne * D) := add_div _ _ _
      _ ≤ q + (2 * e + 5) := by linarith

/-- The sum in fixed point, when its first term falls short by at most `e`. -/
theorem abs_taylor_sub_le {x : ℝ} {x2 : Nat} (hx : 0 ≤ x) (hx2 : x ≤ 2) (hlow : (x2 : ℝ) ≤ x * x * fixOne)
    (hhigh : x * x * fixOne ≤ x2 + 1) (fuel : Nat) {k t : Nat} {e : ℝ} (ht : (t : ℝ) ≤ fixOne * taylorCoeff x k)
    (ht' : fixOne * taylorCoeff x k ≤ t + e) :
    |(taylor x2 fuel k t : ℝ) - fixOne * alternatingSum (taylorCoeff x) fuel k| ≤ (e + 5) * (2 ^ fuel - 1) := by
  induction fuel generalizing k t e with
  | zero => simp [taylor, alternatingSum]
  | succ fuel ih =>
    obtain ⟨hterm, hterm'⟩ := taylor_term_bounds hx hx2 hlow hhigh ht ht'
    have hrest := ih hterm hterm'
    rw [taylor, alternatingSum_succ, Int.cast_sub, Int.cast_natCast, pow_succ]
    rw [abs_le] at hrest ⊢
    obtain ⟨hrest, hrest'⟩ := hrest
    constructor <;> linarith

/-! ### `cosSeries` and `sinSeries` -/

/-- An error in fixed point and an exact one, added up. -/
theorem abs_sub_fixOne_mul_le {y c c' e e' : ℝ} (hy : |y - fixOne * c'| ≤ e)
    (hc : fixOne * |c - c'| ≤ e') : |y - fixOne * c| ≤ e + e' := by
  have hF := fixOne_pos
  rw [← abs_of_pos hF, ← abs_mul] at hc
  calc |y - fixOne * c| = |(y - fixOne * c') - fixOne * (c - c')| := by ring_nf
    _ ≤ |y - fixOne * c'| + |fixOne * (c - c')| := abs_sub _ _
    _ ≤ e + e' := add_le_add hy hc

/-- Both series with 48 terms, at a number below 2 in fixed point. -/
theorem abs_series_sub_le {r : Nat} (hr : (r : ℝ) / fixOne ≤ 2) :
    |(cosSeries r : ℝ) - fixOne * Real.cos (r / fixOne)| ≤ 2 ^ 51 ∧
      |(sinSeries r : ℝ) - fixOne * Real.sin (r / fixOne)| ≤ 2 ^ 51 := by
  have hF := fixOne_pos
  set x : ℝ := r / fixOne with hxdef
  have hx : 0 ≤ x := by positivity
  have hxF : fixOne * x = r := mul_div_cancel₀ _ hF.ne'
  obtain ⟨hq, hq'⟩ := cast_div_bounds (r * r) (Nat.two_pow_pos fixBits)
  have hsq : ((r * r : Nat) : ℝ) / (2 ^ fixBits : Nat) = x * x * fixOne := by
    rw [Nat.cast_mul, div_eq_iff (show ((2 ^ fixBits : Nat) : ℝ) ≠ 0 from hF.ne'), ← hxF]
    simp only [fixOne]
    ring
  rw [hsq] at hq hq'
  have hcos0 : ((2 ^ fixBits : Nat) : ℝ) = fixOne * taylorCoeff x 0 := by simp [taylorCoeff, fixOne]
  have hsin0 : (r : ℝ) = fixOne * taylorCoeff x 1 := by simp [taylorCoeff, hxF]
  have hcos := abs_taylor_sub_le (e := 0) hx hr hq hq'.le 48 hcos0.le (by rw [hcos0, add_zero])
  have hsin := abs_taylor_sub_le (e := 0) hx hr hq hq'.le 48 hsin0.le (by rw [hsin0, add_zero])
  obtain ⟨htailc, htails⟩ := abs_taylorSum_sub_le (x := x) (m := 48) (by rw [abs_of_nonneg hx]; push_cast; linarith)
  have htail : fixOne * (|x| ^ (2 * 48) / (2 * 48).factorial * 2) ≤ 1 := by
    have hnat : 2 ^ fixBits * (2 ^ (2 * 48) * 2) ≤ (2 * 48).factorial := by decide +kernel
    have hfix := fixOne_mul_cast_le hnat
    rw [Nat.cast_mul, Nat.cast_pow, Nat.cast_ofNat] at hfix
    have hpow : |x| ^ (2 * 48) ≤ 2 ^ (2 * 48) := pow_le_pow_left₀ (abs_nonneg x) (by rwa [abs_of_nonneg hx]) _
    rw [div_mul_eq_mul_div, mul_div_assoc', div_le_one (by positivity)]
    exact (mul_le_mul_of_nonneg_left (mul_le_mul_of_nonneg_right hpow two_pos.le) hF.le).trans hfix
  have hsum : ((0 : ℝ) + 5) * (2 ^ 48 - 1) + 1 ≤ 2 ^ 51 := by norm_num
  exact ⟨(abs_sub_fixOne_mul_le hcos ((mul_le_mul_of_nonneg_left htailc hF.le).trans htail)).trans hsum,
    (abs_sub_fixOne_mul_le hsin ((mul_le_mul_of_nonneg_left htails hF.le).trans htail)).trans hsum⟩

end Sys2Proof

/-! Proofs: the reference cosine and sine of every finite operand (R115, R130 P11): reduction to the first quadrant, the
error of the fixed-point values, and the checked rounding. -/

namespace Sys2Proof

/-! ### Reduction to the first quadrant -/

/-- 1 with `piBits` fractional bits. -/
noncomputable def wideOne : ℝ := (2 ^ piBits : Nat)

theorem wideOne_pos : 0 < wideOne := Nat.cast_pos.2 (Nat.two_pow_pos _)

/-- The bits that `reduced` drops. -/
noncomputable def wideStep : ℝ := (2 ^ (piBits - fixBits) : Nat)

theorem wideStep_pos : 0 < wideStep := Nat.cast_pos.2 (Nat.two_pow_pos _)

theorem wideOne_eq : wideOne = wideStep * fixOne := by
  rw [wideOne, wideStep, fixOne, ← Nat.cast_mul, ← pow_add, show piBits - fixBits + fixBits = piBits by decide]

/-- `wideFix` is exact. -/
theorem wideFix_eq (a : F64) : (wideFix a : ℝ) = |valueOf a| * wideOne := by
  have h : wideOne = unitsPerOne * (2 ^ (piBits - 1074) : Nat) := by
    rw [wideOne, unitsPerOne_eq_cast, ← Nat.cast_mul, ← pow_add, show 1074 + (piBits - 1074) = piBits by decide]
  unfold wideFix
  rw [Nat.cast_mul, h, ← mul_assoc, abs_valueOf_mul_unitsPerOne]

/-- What is left of a finite datum's magnitude after its whole quarter turns. -/
noncomputable def remainder (a : F64) : ℝ := |valueOf a| - quadrant a * (Real.pi / 2)

theorem abs_valueOf_eq_remainder_add (a : F64) : |valueOf a| = remainder a + quadrant a * (Real.pi / 2) :=
  (sub_add_cancel _ _).symm

/-- A finite datum holds so few quarter turns that the error of `halfPi` does not add up. -/
theorem quadrant_le {a : F64} (ha : isFinite a = true) : quadrant a ≤ 2 ^ (piBits - fixBits) := by
  have hu : units a ≤ magUnits infMag := magUnits_strictMono.monotone (isFinite_iff.1 ha).le
  unfold quadrant wideFix
  refine Nat.div_le_of_le_mul ((Nat.mul_le_mul_right _ hu).trans ?_)
  decide +kernel

/-- `reduced` is the remainder in fixed point, up to one unit. -/
theorem abs_reduced_sub_le {a : F64} (ha : isFinite a = true) : |(reduced a : ℝ) - fixOne * remainder a| ≤ 1 := by
  have hS := wideStep_pos
  have hpi : (halfPi : ℝ) ≤ wideOne * (Real.pi / 2) := halfPi_bounds.1
  have hpi' : wideOne * (Real.pi / 2) ≤ halfPi + 1 := halfPi_bounds.2
  have hq : (quadrant a : ℝ) ≤ wideStep := Nat.cast_le.2 (quadrant_le ha)
  have hq0 : (0 : ℝ) ≤ quadrant a := Nat.cast_nonneg _
  have hsplit : (wideFix a : ℝ) = halfPi * quadrant a + (wideFix a % halfPi : Nat) := by
    rw [quadrant, ← Nat.cast_mul, ← Nat.cast_add, Nat.div_add_mod]
  have hrem : fixOne * remainder a * wideStep =
      (wideFix a % halfPi : Nat) - quadrant a * (wideOne * (Real.pi / 2) - halfPi) := by
    rw [mul_right_comm, mul_comm fixOne, ← wideOne_eq, remainder, mul_sub, mul_comm wideOne |valueOf a|, ← wideFix_eq,
      hsplit]
    ring
  obtain ⟨hr, hr'⟩ := cast_div_bounds (wideFix a % halfPi) (Nat.two_pow_pos (piBits - fixBits))
  have hr : (reduced a : ℝ) * wideStep ≤ (wideFix a % halfPi : Nat) := (le_div_iff₀ hS).1 hr
  have hr' : ((wideFix a % halfPi : Nat) : ℝ) < (reduced a + 1) * wideStep := (div_lt_iff₀ hS).1 hr'
  generalize ((wideFix a % halfPi : Nat) : ℝ) = ρ at *
  have hδ : 0 ≤ quadrant a * (wideOne * (Real.pi / 2) - halfPi) := mul_nonneg hq0 (by linarith)
  have hδ' : quadrant a * (wideOne * (Real.pi / 2) - halfPi) ≤ wideStep * 1 :=
    mul_le_mul hq (by linarith) (by linarith) hS.le
  rw [abs_le]
  constructor
  · refine le_of_mul_le_mul_right ?_ hS
    linarith
  · refine le_of_mul_le_mul_right ?_ hS
    linarith

theorem reduced_le (a : F64) : reduced a ≤ 2 * 2 ^ fixBits := by
  have hmod : wideFix a % halfPi ≤ halfPi := (Nat.mod_lt _ (by decide +kernel)).le
  unfold reduced
  refine (Nat.div_le_div_right hmod).trans ?_
  decide +kernel

theorem reduced_le_two (a : F64) : (reduced a : ℝ) / fixOne ≤ 2 := by
  have h := cast_le_mul_fixOne (reduced_le a)
  rw [div_le_iff₀ fixOne_pos]
  rwa [Nat.cast_ofNat] at h

/-- The fixed-point values of cosine and sine of the remainder. -/
theorem abs_series_reduced_sub_le {a : F64} (ha : isFinite a = true) :
    |(cosSeries (reduced a) : ℝ) - fixOne * Real.cos (remainder a)| ≤ 2 ^ 52 ∧
      |(sinSeries (reduced a) : ℝ) - fixOne * Real.sin (remainder a)| ≤ 2 ^ 52 := by
  have hF := fixOne_pos
  obtain ⟨hcos, hsin⟩ := abs_series_sub_le (reduced_le_two a)
  have hdist : fixOne * |remainder a - reduced a / fixOne| ≤ 1 := by
    rw [← abs_of_pos hF, ← abs_mul, abs_of_pos hF, mul_sub, mul_div_cancel₀ _ hF.ne', abs_sub_comm]
    exact abs_reduced_sub_le ha
  have hsum : (2 : ℝ) ^ 51 + 1 ≤ 2 ^ 52 := by norm_num
  exact ⟨(abs_sub_fixOne_mul_le hcos
      ((mul_le_mul_of_nonneg_left (Real.abs_cos_sub_cos_le _ _) hF.le).trans hdist)).trans hsum,
    (abs_sub_fixOne_mul_le hsin
      ((mul_le_mul_of_nonneg_left (Real.abs_sin_sub_sin_le _ _) hF.le).trans hdist)).trans hsum⟩

/-! ### Quarter turns -/

/-- Four quarter turns are a whole one. -/
theorem cos_add_quarter_turns (x : ℝ) (q : Nat) :
    Real.cos (x + q * (Real.pi / 2)) = Real.cos (x + (q % 4 : Nat) * (Real.pi / 2)) := by
  have hq : (q : ℝ) = (q % 4 : Nat) + 4 * (q / 4 : Nat) := by exact_mod_cast (Nat.mod_add_div q 4).symm
  have hturns : x + q * (Real.pi / 2) = x + (q % 4 : Nat) * (Real.pi / 2) + (q / 4 : Nat) * (2 * Real.pi) := by
    rw [hq]
    ring
  rw [hturns, Real.cos_add_nat_mul_two_pi]

/-- `cosTurned` selects the function that the cosine is, `q` quarter turns on. -/
theorem abs_cosTurned_sub_le {a : F64} (ha : isFinite a = true) (q : Nat) :
    |(cosTurned q (reduced a) : ℝ) - fixOne * Real.cos (remainder a + q * (Real.pi / 2))| ≤ 2 ^ 52 := by
  obtain ⟨hcos, hsin⟩ := abs_series_reduced_sub_le ha
  have hneg : ∀ y c : ℝ, |-y - fixOne * -c| = |y - fixOne * c| := fun y c => by
    rw [← abs_neg]
    ring_nf
  rw [cos_add_quarter_turns]
  obtain h | h | h | h : q % 4 = 0 ∨ q % 4 = 1 ∨ q % 4 = 2 ∨ q % 4 = 3 := by omega
  · rw [h, Nat.cast_zero, zero_mul, add_zero]
    simpa only [cosTurned, h] using hcos
  · rw [h, Nat.cast_one, one_mul, Real.cos_add_pi_div_two]
    simpa only [cosTurned, h, Int.cast_neg, hneg] using hsin
  · rw [h, Nat.cast_ofNat, mul_div_cancel₀ _ two_ne_zero, Real.cos_add_pi]
    simpa only [cosTurned, h, Int.cast_neg, hneg] using hcos
  · rw [h, show remainder a + (3 : Nat) * (Real.pi / 2) = remainder a + Real.pi + Real.pi / 2 by push_cast; ring,
      Real.cos_add_pi_div_two, Real.sin_add_pi, neg_neg]
    simpa only [cosTurned, h] using hsin

/-- The fixed-point cosine of a finite datum. -/
theorem abs_cosFixed_sub_le {a : F64} (ha : isFinite a = true) :
    |(cosFixed a : ℝ) - fixOne * Real.cos (valueOf a)| ≤ 2 ^ 52 := by
  rw [← Real.cos_abs, abs_valueOf_eq_remainder_add]
  exact abs_cosTurned_sub_le ha (quadrant a)

theorem sin_valueOf (a : F64) : Real.sin (valueOf a) = signFactor (signBit a) * Real.sin |valueOf a| := by
  rw [← signFactor_mul_valueOf]
  cases signBit a
  · simp [signFactor]
  · simp [signFactor]

/-- The fixed-point sine of a finite datum. -/
theorem abs_sinFixed_sub_le {a : F64} (ha : isFinite a = true) :
    |(sinFixed a : ℝ) - fixOne * Real.sin (valueOf a)| ≤ 2 ^ 52 := by
  have hturn : Real.sin |valueOf a| = Real.cos (remainder a + (quadrant a + 3 : Nat) * (Real.pi / 2)) := by
    have h : remainder a + (quadrant a + 3 : Nat) * (Real.pi / 2) = |valueOf a| + Real.pi + Real.pi / 2 := by
      rw [abs_valueOf_eq_remainder_add]
      push_cast
      ring
    rw [h, Real.cos_add_pi_div_two, Real.sin_add_pi, neg_neg]
  have hcast : (sinFixed a : ℝ) = signFactor (signBit a) * cosTurned (quadrant a + 3) (reduced a) := by
    rw [sinFixed, Int.cast_mul, signFactor, apply_ite (Int.cast (R := ℝ)), Int.cast_neg, Int.cast_one]
  rw [hcast, sin_valueOf, mul_left_comm, ← mul_sub, abs_mul, abs_signFactor, one_mul, hturn]
  exact abs_cosTurned_sub_le ha (quadrant a + 3)

/-! ### The checked rounding -/

/-- `roundFix` on the magnitude. -/
theorem roundFix_rounds (y : Int) :
    RoundsToMag (|(y : ℝ) / fixOne| * unitsPerOne) (roundMag (y.natAbs * 2 ^ 1074) (2 ^ fixBits)) := by
  have h := roundMag_rounds (num := y.natAbs * 2 ^ 1074) (Nat.two_pow_pos fixBits)
  rwa [Nat.cast_mul, ← unitsPerOne_eq_cast, cast_natAbs_eq_abs, ← div_mul_eq_mul_div, ← fixOne,
    ← abs_of_pos fixOne_pos, ← abs_div] at h

theorem signFactor_div_fixOne (y : Int) : signFactor (decide (y < 0)) * (y / fixOne) = |(y : ℝ) / fixOne| := by
  rw [abs_div, abs_of_pos fixOne_pos, mul_div_assoc', ← decide_cast_neg, signFactor_decide_mul]

theorem roundFix_roundsTo (y : Int) : RoundsTo (y / fixOne) (roundFix y) :=
  (roundFix_rounds y).roundsTo_pack (signFactor_div_fixOne y)

theorem pack_injective {s t : Bool} {m n : Nat} (hm : m ≤ infMag) (hn : n ≤ infMag) (h : pack s m = pack t n) :
    s = t ∧ m = n := by
  have hm := lt_of_le_infMag hm
  have hn := lt_of_le_infMag hn
  exact ⟨(signBit_pack hm).symm.trans ((congrArg signBit h).trans (signBit_pack hn)),
    (magBits_pack hm).symm.trans ((congrArg magBits h).trans (magBits_pack hn))⟩

/-- What lies between two fixed-point numbers that round to one datum rounds to it. -/
theorem roundFix_between {y z : Int} {x : ℝ} (h : roundFix y = roundFix z) (hy : y / fixOne ≤ x) (hz : x ≤ z / fixOne) :
    RoundsTo x (roundFix y) := by
  have hF := fixOne_pos
  have hP := unitsPerOne_pos
  obtain ⟨hs, hm⟩ := pack_injective (roundMag_le _ _) (roundMag_le _ _) h
  have hry := roundFix_rounds y
  have hrz := roundFix_rounds z
  rw [← hm] at hrz
  by_cases hneg : y < 0
  · have hz0 : (z : ℝ) / fixOne ≤ 0 := by
      have : z < 0 := by simpa [hneg] using hs
      exact div_nonpos_of_nonpos_of_nonneg (by exact_mod_cast this.le) hF.le
    refine RoundsToMag.roundsTo_pack (hrz.between ?_ ?_ hry) ?_
    · exact mul_le_mul_of_nonneg_right (by rw [abs_of_nonpos hz0, abs_of_nonpos (hz.trans hz0)]; linarith) hP.le
    · exact mul_le_mul_of_nonneg_right
        (by rw [abs_of_nonpos (hz.trans hz0), abs_of_nonpos ((hy.trans hz).trans hz0)]; linarith) hP.le
    · rw [decide_eq_true hneg, abs_of_nonpos (hz.trans hz0)]
      exact neg_one_mul x
  · have hy0 : 0 ≤ (y : ℝ) / fixOne := div_nonneg (by exact_mod_cast not_lt.1 hneg) hF.le
    refine RoundsToMag.roundsTo_pack (hry.between ?_ ?_ hrz) ?_
    · exact mul_le_mul_of_nonneg_right (by rwa [abs_of_nonneg hy0, abs_of_nonneg (hy0.trans hy)]) hP.le
    · exact mul_le_mul_of_nonneg_right
        (by rwa [abs_of_nonneg (hy0.trans hy), abs_of_nonneg ((hy0.trans hy).trans hz)]) hP.le
    · rw [decide_eq_false hneg, abs_of_nonneg (hy0.trans hy)]
      exact one_mul x

/-- A number that exceeds 1 by less than half a unit in the last place is rounded to no more than 1. -/
theorem roundFix_le_one {y : Int} (hy : |(y : ℝ)| ≤ fixOne + 2 ^ 61) :
    isFinite (roundFix y) = true ∧ |valueOf (roundFix y)| ≤ 1 := by
  have hF := fixOne_pos
  have hP := unitsPerOne_pos
  have hone : magBits fOne < infMag ∧ magUnits (magBits fOne) = 2 ^ 1074 ∧
      2 * (2 ^ fixBits + 2 ^ 61) * 2 ^ 1074 < midpoint2 (magBits fOne) * 2 ^ fixBits := by decide +kernel
  obtain ⟨hlt, hunits, hmid⟩ := hone
  have hmid : 2 * (fixOne + 2 ^ 61) * unitsPerOne < midpoint2 (magBits fOne) * fixOne := by
    rw [fixOne, unitsPerOne_eq_cast]
    exact_mod_cast hmid
  have hstays : StaysAtMag (|(y : ℝ) / fixOne| * unitsPerOne) (magBits fOne) := fun _ => .inl <| by
    rw [abs_div, abs_of_pos hF, div_mul_eq_mul_div, mul_div_assoc', div_lt_iff₀ hF]
    linarith [mul_le_mul_of_nonneg_right hy hP.le]
  have hle := le_of_reaches_of_stays le_rfl (roundMag_le _ _) (roundFix_rounds y).reaches hstays
  have hm : magBits (roundFix y) = roundMag (y.natAbs * 2 ^ 1074) (2 ^ fixBits) :=
    magBits_pack (lt_of_le_infMag (roundMag_le _ _))
  refine ⟨isFinite_iff.2 (hm ▸ hle.trans_lt hlt), ?_⟩
  rw [abs_valueOf, div_le_one hP, units_eq_magUnits, unitsPerOne_eq_cast, ← hunits, hm]
  exact magUnits_cast_le hle

theorem fixOne_eq : fixOne = 2 ^ 61 * 2 ^ 259 := by
  rw [fixOne, Nat.cast_pow, Nat.cast_ofNat, ← pow_add]
  rfl

/-- An end of the checked interval, where its middle is known to lie near `x`. -/
theorem roundFix_end_spec {y z : Int} {x : ℝ} (hy : |(y : ℝ) - fixOne * x| ≤ 2 ^ 52) (hx : |x| ≤ 1)
    (hz : |(z : ℝ) - y| ≤ 2 ^ 60) :
    (∃ w : ℝ, |w - x| ≤ 1 / 2 ^ 259 ∧ RoundsTo w (roundFix z)) ∧
      isFinite (roundFix z) = true ∧ |valueOf (roundFix z)| ≤ 1 := by
  have hF := fixOne_pos
  have hdist : |(z : ℝ) - fixOne * x| ≤ 2 ^ 61 := by
    have h := abs_sub_le (z : ℝ) y (fixOne * x)
    linarith
  refine ⟨⟨z / fixOne, ?_, roundFix_roundsTo z⟩, roundFix_le_one ?_⟩
  · have h : (z : ℝ) / fixOne - x = (z - fixOne * x) / fixOne := by
      rw [sub_div, mul_div_cancel_left₀ _ hF.ne']
    rw [h, abs_div, abs_of_pos hF, div_le_iff₀ hF]
    refine hdist.trans (le_of_eq ?_)
    rw [fixOne_eq, one_div, mul_comm ((2 : ℝ) ^ 61), inv_mul_cancel_left₀ (by positivity)]
  · have h := abs_add_le ((z : ℝ) - fixOne * x) (fixOne * x)
    rw [sub_add_cancel, abs_mul, abs_of_pos hF] at h
    linarith [mul_le_mul_of_nonneg_left hx hF.le]

/-- The checked rounding of a number known to lie near `x`. -/
theorem roundChecked_spec {y : Int} {x : ℝ} (hy : |(y : ℝ) - fixOne * x| ≤ 2 ^ 52) (hx : |x| ≤ 1) (up : Bool) :
    (decided y = true → RoundsTo x (roundChecked y up)) ∧
      (∃ w : ℝ, |w - x| ≤ 1 / 2 ^ 259 ∧ RoundsTo w (roundChecked y up)) ∧
      isFinite (roundChecked y up) = true ∧ |valueOf (roundChecked y up)| ≤ 1 := by
  have hF := fixOne_pos
  have herr : (fixErr : ℝ) = 2 ^ 60 := by norm_num [fixErr]
  refine ⟨fun hd => ?_, ?_⟩
  · rw [roundChecked_of_decided hd up]
    obtain ⟨hlow, hhigh⟩ := abs_le.1 hy
    refine roundFix_between (eq_of_beq hd) ?_ ?_
    · rw [div_le_iff₀ hF, Int.cast_sub, herr]
      linarith
    · rw [le_div_iff₀ hF, Int.cast_add, herr]
      linarith
  · rcases roundChecked_cases y up with h | h <;> rw [h]
    · exact roundFix_end_spec hy hx (by rw [Int.cast_sub, herr, sub_sub_cancel_left, abs_neg, abs_of_pos (by norm_num)])
    · exact roundFix_end_spec hy hx (by rw [Int.cast_add, herr, add_sub_cancel_left, abs_of_pos (by norm_num)])

/-! ### The sine near 0 -/

/-- The step below a magnitude is at least its `2^53`-th part. -/
theorem magUnits_succ_le (n : Nat) : magUnits (n + 1) + 2 ^ 53 * magUnits n ≤ 2 ^ 53 * magUnits (n + 1) := by
  obtain ⟨q, k, hq, hk, rfl⟩ := exists_scaled n
  rw [magUnits_scaled hq.le hk, Nat.add_assoc, magUnits_scaled hq (by omega)]
  have h : (q + 1) * 2 ^ k ≤ 2 ^ 53 * 2 ^ k := Nat.mul_le_mul_right _ hq
  linarith

/-- What is below a magnitude by less than its `2^54`-th part rounds to it. -/
theorem roundsToMag_of_relative {X : ℝ} {m : Nat} (hm : m ≤ infMag) (hX : X ≤ magUnits m)
    (hX' : (2 ^ 54 - 1) * (magUnits m : ℝ) < 2 ^ 54 * X ∨ m = 0) : RoundsToMag X m := by
  refine ⟨hm, ?_, staysAtMag_of_le_magUnits hX⟩
  rintro n rfl
  have hX' := hX'.resolve_right (Nat.succ_ne_zero n)
  have hgap : (magUnits (n + 1) : ℝ) + 2 ^ 53 * magUnits n ≤ 2 ^ 53 * magUnits (n + 1) := by
    exact_mod_cast magUnits_succ_le n
  left
  rw [cast_midpoint2]
  linarith

/-- Below `2^-27` the sine rounds to its operand. -/
theorem sin_roundsTo_self {a : F64} (ha : isFinite a = true) (hsmall : |valueOf a| ≤ 1 / 2 ^ 27) :
    RoundsTo (Real.sin (valueOf a)) a := by
  have hP := unitsPerOne_pos
  have hunits := abs_valueOf_mul_unitsPerOne a
  have hv := abs_nonneg (valueOf a)
  have hsin0 : 0 ≤ Real.sin |valueOf a| :=
    Real.sin_nonneg_of_nonneg_of_le_pi hv (by linarith [Real.pi_gt_three, show (1 : ℝ) / 2 ^ 27 ≤ 1 by norm_num])
  have habs : |Real.sin (valueOf a)| = Real.sin |valueOf a| := by
    rw [sin_valueOf, abs_mul, abs_signFactor, one_mul, abs_of_nonneg hsin0]
  have hmag : RoundsToMag (|Real.sin (valueOf a)| * unitsPerOne) (magBits a) := by
    refine roundsToMag_of_relative (isFinite_iff.1 ha).le ?_ ?_
    · rw [habs, ← units_eq_magUnits, ← hunits]
      exact mul_le_mul_of_nonneg_right (Real.sin_le hv) hP.le
    · rw [habs, ← units_eq_magUnits, ← hunits, ← units_eq_zero_iff, ← valueOf_eq_zero_iff, ← abs_eq_zero,
        or_iff_not_imp_right]
      intro h0
      have hpos := lt_of_le_of_ne hv (Ne.symm h0)
      have hcube := Real.sin_ge_sub_cube hv
      have hsq : |valueOf a| ^ 3 ≤ |valueOf a| * (1 / 2 ^ 54) := by
        rw [pow_succ']
        exact mul_le_mul_of_nonneg_left ((pow_le_pow_left₀ hv hsmall 2).trans_eq (by norm_num)) hv
      rw [← mul_assoc, ← mul_assoc]
      exact mul_lt_mul_of_pos_right (by linarith) hP
  have h := hmag.roundsTo_pack (s := signBit a) (by
    rw [habs, sin_valueOf, ← mul_assoc, signFactor_mul_self, one_mul])
  rwa [pack_sign_mag] at h

theorem abs_valueOf_le_of_units_lt {a : F64} (h : units a < 2 ^ 1047) : |valueOf a| ≤ 1 / 2 ^ 27 := by
  have hnat : units a * 2 ^ 27 ≤ 2 ^ 1074 := by
    rw [show 1074 = 1047 + 27 from rfl, pow_add]
    exact Nat.mul_le_mul_right _ h.le
  rw [abs_valueOf, div_le_div_iff₀ unitsPerOne_pos (by positivity), one_mul, unitsPerOne_eq_cast]
  exact_mod_cast hnat

/-- Settles O56: `roundChecked_spec` at the fixed-point values, and the sine near 0. -/
theorem referenceTrigRoundsOnce : Obligations.ReferenceTrigRoundsOnce := by
  intro a ha
  constructor
  · have h := roundChecked_spec (abs_cosFixed_sub_le ha) (Real.abs_cos_le_one _) (Config.cosRoundsUp a)
    rwa [refCos, if_pos ha]
  · rw [refSin, if_pos ha]
    split
    · next hlt =>
      have hsmall := abs_valueOf_le_of_units_lt hlt
      have hself := sin_roundsTo_self ha hsmall
      refine ⟨fun _ => hself, ⟨Real.sin (valueOf a), ?_, hself⟩, ha, hsmall.trans (by norm_num)⟩
      rw [sub_self, abs_zero]
      positivity
    · next hge =>
      obtain ⟨hd, hrest⟩ := roundChecked_spec (abs_sinFixed_sub_le ha) (Real.abs_sin_le_one _) (Config.sinRoundsUp a)
      exact ⟨fun h => hd (h.resolve_left hge), hrest⟩

end Sys2Proof

/-! Proofs: the Block Extractor, and RUN's count of results (R141 to R144, R198). -/

namespace Sys2Proof.Machine

/-! ### REWIND and the WLEN write (R141, R143) -/

/-- Settles O19: `rewindOp` is this update. -/
theorem rewindResult : Obligations.RewindResult := fun _ => rfl

/-- Settles O21: in whatever form it comes the write is `wlenWrite`, which does not look at FAULT. -/
theorem wlenWriteRewinds : Obligations.WlenWriteRewinds := by
  intro s op x rest hb hh hw
  calc step s = hostPerform op { s with host := rest } := step_of_idle hb hh
    _ = csrWrite 2 x { s with host := rest } := hostPerform_registerWrite hw _
    _ = .next { s with host := rest, wlen := x, left := 0, cur := 0, bv := false, exh := false } := rfl

/-! ### EXTRACT (R142) -/

/-- EXTRACT where the Waveform is exhausted already. -/
theorem extractOp_of_exh {s : State} (he : s.exh = true) : extractOp s = s := if_pos he

/-- EXTRACT where a block is left. -/
theorem extractOp_of_fits {s : State} (he : s.exh = false) (hf : s.left.toNat + s.n ≤ s.wlen.toNat) :
    extractOp s = { s with cur := s.left, bv := true, left := s.left + BitVec.ofNat 32 s.cfg.stepSize } := by
  simp [extractOp, blockFits, he, hf]

/-- EXTRACT where no block is left. -/
theorem extractOp_of_not_fits {s : State} (he : s.exh = false) (hf : ¬s.left.toNat + s.n ≤ s.wlen.toNat) :
    extractOp s = { s with bv := false, exh := true } := by
  simp [extractOp, blockFits, he, hf]

/-- Settles O20: EXTRACT's three cases, and the step over a block that fits. -/
theorem extractResult : Obligations.ExtractResult := by
  refine fun s => ⟨congrArg Host.Outcome.next ?_, left_add_stepSize s⟩
  split
  · next he => exact extractOp_of_exh he
  · next he =>
    split
    · next hf => exact extractOp_of_fits (Bool.eq_false_of_not_eq_true he) hf
    · next hf => exact extractOp_of_not_fits (Bool.eq_false_of_not_eq_true he) hf

/-! ### The sequence of blocks (R144) -/

/-- R144's `B(n)` counts the blocks that fit: number `k`, which begins at `k * S`, is one of them exactly if it ends
inside the Waveform. -/
theorem lt_blockCount_iff {c : Config} {n k : Nat} : k < blockCount c n ↔ k * c.stepSize + c.blockSize ≤ n := by
  have hstep := (Config.bounds c).2.2.1
  unfold blockCount
  split
  · omega
  · rw [Nat.lt_succ_iff, Nat.le_div_iff_mul_le hstep]
    omega

/-- The extractor of `t` is where `k` blocks yielded from the start of the Waveform of `s` leave it: LEFT `k` strides
on, the last of these blocks, if there is one, the current one. -/
structure Yielded (s : State) (k : Nat) (t : State) : Prop where
  cfg : t.cfg = s.cfg
  wlen : t.wlen = s.wlen
  exh : t.exh = false
  left : t.left.toNat = k * s.cfg.stepSize
  bv : 0 < k → t.bv = true
  cur : 0 < k → t.cur.toNat = (k - 1) * s.cfg.stepSize

theorem Yielded.zero {s : State} (hl : s.left = 0) (he : s.exh = false) : Yielded s 0 s :=
  ⟨rfl, rfl, he, by simp [hl], nofun, nofun⟩

section
variable {s t : State} {k : Nat} (h : Yielded s k t)
include h

/-- There is a next block as long as fewer than `B(n)` have been yielded. -/
theorem Yielded.fits_iff : t.left.toNat + t.n ≤ t.wlen.toNat ↔ k < blockCount s.cfg s.wlen.toNat := by
  rw [lt_blockCount_iff, State.n, h.cfg, h.wlen, h.left]

theorem Yielded.extractOp_succ (hk : k < blockCount s.cfg s.wlen.toNat) : Yielded s (k + 1) (extractOp t) := by
  have hf := h.fits_iff.2 hk
  have hx := extractOp_of_fits h.exh hf
  refine ⟨by simp [h.cfg], by simp [h.wlen], ?_, ?_, ?_, ?_⟩
  · rw [hx]
    exact h.exh
  · rw [hx, Nat.succ_mul, ← h.left, ← h.cfg]
    exact left_add_stepSize t hf
  · rw [hx]
    exact fun _ => rfl
  · rw [hx]
    exact fun _ => h.left

theorem Yielded.extractOp_last (hk : k = blockCount s.cfg s.wlen.toNat) :
    extractOp t = { t with bv := false, exh := true } :=
  extractOp_of_not_fits h.exh fun hf => absurd (h.fits_iff.1 hf) (by omega)

/-- RUN goes on after an EXTRACT that has yielded a block. -/
theorem Yielded.runContinues (hk : 0 < k) : runContinues t = true := by simp [Machine.runContinues, h.bv hk, h.exh]

/-- What becomes of a block in the pipeline does not move the extractor. -/
theorem Yielded.pipelined {u : State} (hp : Pipelined t u) : Yielded s k u where
  cfg := hp.hostSide.cfg.trans h.cfg
  wlen := hp.extractor.wlen.trans h.wlen
  exh := hp.extractor.exh.trans h.exh
  left := by rw [hp.extractor.left, h.left]
  bv hk := hp.extractor.bv.trans (h.bv hk)
  cur hk := by rw [hp.extractor.cur, h.cur hk]

end

theorem execTimes_succ_of_eq_next {i : Instr} {k : Nat} {s t : State} (h : execTimes i k s = .next t) :
    execTimes i (k + 1) s = exec i t := by
  rw [execTimes, h, andThen_next]

/-- A command that changes nothing once changes nothing ever. -/
theorem execTimes_of_fixed {i : Instr} {s : State} (h : exec i s = .next s) (k : Nat) : execTimes i k s = .next s := by
  induction k with
  | zero => rfl
  | succ k ih => rw [execTimes_succ_of_eq_next ih, h]

/-- From LEFT = 0, EXH = 0, up to `B(n)` EXTRACTs yield a block each. -/
theorem execTimes_extract_yielded {s : State} (hl : s.left = 0) (he : s.exh = false) {k : Nat}
    (hk : k ≤ blockCount s.cfg s.wlen.toNat) : ∃ t, execTimes .extract k s = .next t ∧ Yielded s k t := by
  induction k with
  | zero => exact ⟨s, rfl, .zero hl he⟩
  | succ k ih =>
    obtain ⟨t, ht, hy⟩ := ih (by omega)
    exact ⟨extractOp t, execTimes_succ_of_eq_next ht, hy.extractOp_succ hk⟩

/-- Settles O22: `B(n)` EXTRACTs yield their blocks, the next finds none, and then EXH = 1 holds EXTRACT off. -/
theorem extractSequence : Obligations.ExtractSequence := by
  intro s hl he
  constructor
  · intro k hk
    obtain ⟨t, ht, hy⟩ := execTimes_extract_yielded hl he hk
    exact ⟨t, ht, hy.bv k.succ_pos, hy.exh, hy.cur k.succ_pos⟩
  · obtain ⟨t, ht, hy⟩ := execTimes_extract_yielded hl he le_rfl
    have hx : exec .extract t = .next { t with bv := false, exh := true } :=
      congrArg Host.Outcome.next (hy.extractOp_last rfl)
    exact ⟨_, (execTimes_succ_of_eq_next ht).trans hx, rfl, rfl,
      execTimes_of_fixed (congrArg Host.Outcome.next (extractOp_of_exh rfl))⟩

/-! ### RUN's results (R198) -/

/-- `t` has `k` results more than `s`, appended to RES and counted in RCOUNT modulo `2^32` (R126). -/
structure MoreResults (s : State) (k : Nat) (t : State) : Prop where
  res : ∃ l, t.res = s.res ++ l ∧ l.length = k
  rcount : t.rcount.toNat = (s.rcount.toNat + k) % 2 ^ 32

theorem MoreResults.zero (s : State) : MoreResults s 0 s :=
  ⟨⟨[], by simp, rfl⟩, (Nat.mod_eq_of_lt s.rcount.isLt).symm⟩

/-- EXTRACT appends nothing, and a block's pipeline one value. -/
theorem MoreResults.pipelined {s t u : State} {k : Nat} (h : MoreResults s k t) (hp : Pipelined (extractOp t) u) :
    MoreResults s (k + 1) u := by
  obtain ⟨l, hres, hlen⟩ := h.res
  refine ⟨⟨l ++ [u.pkmag], ?_, by simp [hlen]⟩, ?_⟩
  · rw [hp.appended.res, extractOp_res, hres, List.append_assoc]
  · rw [hp.appended.rcount, extractOp_rcount, BitVec.toNat_add, h.rcount, ← Nat.add_assoc]
    exact Nat.mod_add_mod _ _ _

/-- From LEFT = 0, EXH = 0, RUN is RUN from where any `k <= B(n)` blocks and their results leave it. -/
theorem exec_run_yielded {s : State} (hl : s.left = 0) (he : s.exh = false) {k : Nat}
    (hk : k ≤ blockCount s.cfg s.wlen.toNat) :
    ∃ t, exec .run s = exec .run t ∧ Yielded s k t ∧ MoreResults s k t := by
  induction k with
  | zero => exact ⟨s, rfl, .zero hl he, .zero s⟩
  | succ k ih =>
    obtain ⟨t, hrun, hy, hm⟩ := ih (by omega)
    have hx := hy.extractOp_succ hk
    have hc := hx.runContinues k.succ_pos
    obtain ⟨u, hu, hp, -⟩ := runLoop_turn hc
    exact ⟨u, hrun.trans (exec_run_goes_on hc hu).1, hx.pipelined hp, hm.pipelined hp⟩

/-- Settles O37: after `B(n)` blocks RUN's last EXTRACT finds none and moves neither LEFT nor CUR. -/
theorem runResultCount : Obligations.RunResultCount := by
  intro s hl he
  obtain ⟨t, hrun, hy, hm⟩ := exec_run_yielded hl he le_rfl
  obtain ⟨l, hres, hlen⟩ := hm.res
  have hx := hy.extractOp_last rfl
  have hstop : exec .run t = .next { t with bv := false, exh := true } := by
    rw [← hx]
    exact runLoop_stops (by simp [hx, runContinues]) _
  exact ⟨_, l, hrun.trans hstop, hres, hlen, hm.rcount, hy.left, hy.cur⟩

end Sys2Proof.Machine

/-! Proofs: the Windower's result (R151 to R153), and the frame of WINDOW, BITREV, PASS and FFT (R152, R164, R168,
R169). -/

namespace Sys2Proof.Machine

/-! ### WINDOW's entries (R151, R153) -/

/-- R151: what WINELEM `i` writes in state `s`, its five real operations named from `d` up. -/
def windowEntry (s : State) (d i : Nat) : Cplx :=
  ⟨winValue s.cfg d i (waveRead s.wave (sampleIndex s i)), fZero⟩

theorem winElem_buf_eq (i : Nat) (s : State) : (winElem i s).buf = bufWrite s.buf i (windowEntry s s.draws i) := rfl

/-- R151 reads the configuration, WAVE and CUR only, none of which a transform changes. -/
theorem SameControl.windowEntry_eq {s t : State} (h : SameControl s t) (d i : Nat) :
    windowEntry t d i = windowEntry s d i := by
  simp only [windowEntry, sampleIndex, h.hostSide.cfg, h.wave, h.extractor.cur]

/-- Each turn of WINDOW's loop is five real operations. -/
theorem loopUp_winElem_draws (k : Nat) (s : State) : (loopUp winElem k s).draws = s.draws + 5 * k := by
  induction k with
  | zero => rfl
  | succ k ih => rw [loopUp_succ, winElem_draws, ih, Nat.mul_succ, Nat.add_assoc]

/-- R152: after `k` turns the first `k` entries are WINELEM's: a turn writes its own entry and keeps the earlier ones. -/
theorem bufRead_loopUp_winElem {k i : Nat} {s : State} (hi : i < k) (hk : k ≤ s.buf.length) :
    bufRead (loopUp winElem k s).buf i = windowEntry s (s.draws + 5 * i) i := by
  induction k with
  | zero => omega
  | succ k ih =>
    have hc : SameControl s (loopUp winElem k s) := loopUp_control winElem winElem_control k s
    rw [loopUp_succ, winElem_buf_eq]
    obtain rfl | hne := eq_or_ne i k
    · rw [bufRead_bufWrite_same _ _ _ (by rw [hc.bufLength]; omega), hc.windowEntry_eq, loopUp_winElem_draws]
    · rw [bufRead_bufWrite_other _ _ _ hne]
      exact ih (by omega) (by omega)

/-- WINDOW on a current block inside the WAVE space is its loop (R152). -/
theorem exec_window_of_inside {s : State} (hb : s.bv = true) (hin : s.cur.toNat + s.n ≤ 2 ^ 32) :
    exec .window s = .next (loopUp winElem s.n s) :=
  (exec_window_of_bv hb).trans (windowOp_eq_next.2 ⟨hin, rfl⟩)

/-- Settles O23: entry `i` is what WINELEM `i` writes; the five numbers are those of its real operations. -/
theorem windowResult : Obligations.WindowResult := by
  intro s hb hin hl
  have hc : SameControl s (loopUp winElem s.n s) := loopUp_control winElem winElem_control s.n s
  refine ⟨_, exec_window_of_inside hb hin, hc.bufLength.trans hl, hc.extractor.bv.trans hb, fun i hi => ?_⟩
  exact ⟨_, _, _, _, _, bufRead_loopUp_winElem hi hl.ge⟩

/-! ### Transforms leave the scan's registers alone (R152, R164, R168, R169) -/

theorem loopUp_sameScan (f : Nat → State → State) (h : ∀ i s, SameScan s (f i s)) (n : Nat) (s : State) :
    SameScan s (loopUp f n s) :=
  loopUp_relates f .refl .trans h n s

theorem winElem_sameScan (i : Nat) (s : State) : SameScan s (winElem i s) := ⟨rfl, rfl⟩

theorem swapOp_sameScan (i : Nat) (s : State) : SameScan s (swapOp i s) := ⟨swapOp_bm s i, swapOp_bi s i⟩

theorem bflyTurn_sameScan (p i j : Nat) (s : State) : SameScan s (bflyTurn p i j s) := ⟨rfl, rfl⟩

theorem groupOp_sameScan (p i : Nat) (s : State) : SameScan s (groupOp p i s) :=
  .trans (b := startGroup s) ⟨rfl, rfl⟩ (loopUp_sameScan _ (bflyTurn_sameScan p i) _ _)

theorem bitrevOp_sameScan (s : State) : SameScan s (bitrevOp s) := loopUp_sameScan _ swapOp_sameScan _ s

theorem passOp_sameScan (p : Nat) (s : State) : SameScan s (passOp p s) :=
  .trans (b := twiddleOp p s) ⟨rfl, rfl⟩ (loopUp_sameScan _ (fun g => groupOp_sameScan p (groupStart p g)) _ _)

theorem fftOp_sameScan (s : State) : SameScan s (fftOp s) :=
  (bitrevOp_sameScan s).trans (loopUp_sameScan _ (fun k => passOp_sameScan (k + 1)) _ _)

/-! ### WINDOW and BITREV leave the butterfly's registers alone (R152, R164) -/

theorem loopUp_sameTransform (f : Nat → State → State) (h : ∀ i s, SameTransform s (f i s)) (n : Nat) (s : State) :
    SameTransform s (loopUp f n s) :=
  loopUp_relates f .refl .trans h n s

theorem winElem_sameTransform (i : Nat) (s : State) : SameTransform s (winElem i s) := ⟨rfl, rfl, rfl, rfl⟩

theorem swapOp_sameTransform (i : Nat) (s : State) : SameTransform s (swapOp i s) :=
  ⟨swapOp_u s i, swapOp_v s i, swapOp_rp s i, swapOp_w s i⟩

/-! ### The frame of the transform commands (R246) -/

theorem SameControl.sameWave {s t : State} (h : SameControl s t) : SameWave s t :=
  fun a => congrArg (waveByte · a) h.wave

/-- Beyond BUF's entries there is nothing to read, before or after. -/
theorem SameControl.sameBufFrom {s t : State} (h : SameControl s t) : SameBufFrom s.buf.length s t := fun i hi => by
  rw [bufRead_beyond _ i (h.bufLength.trans_le hi), bufRead_beyond _ i hi]

/-- What a transform command can do when it takes no fault. -/
structure Transformed (i : Instr) (s t : State) : Prop where
  control : SameControl s t
  scan : SameScan s t
  transform : i = .window ∨ i = .bitrev → SameTransform s t

/-- Each of the four commands is a loop of micro-operations that keep these fields. -/
theorem exec_transformed {i : Instr} {s t : State} (hw : i.wellFormed s.cfg = true)
    (hi : (i = .window ∧ s.bv = true) ∨ i = .bitrev ∨ (∃ p, i = .pass p) ∨ i = .fft) (h : exec i s = .next t) :
    Transformed i s t := by
  obtain ⟨rfl, hb⟩ | rfl | ⟨p, rfl⟩ | rfl := hi
  · rw [exec_window_of_bv hb] at h
    obtain ⟨-, rfl⟩ := windowOp_eq_next.1 h
    exact ⟨loopUp_control _ winElem_control _ s, loopUp_sameScan _ winElem_sameScan _ s,
      fun _ => loopUp_sameTransform _ winElem_sameTransform _ s⟩
  · obtain rfl := Host.Outcome.next.inj h
    exact ⟨bitrevOp_control s, bitrevOp_sameScan s, fun _ => loopUp_sameTransform _ swapOp_sameTransform _ s⟩
  · rw [exec_pass_of_wellFormed hw] at h
    obtain rfl := Host.Outcome.next.inj h
    exact ⟨passOp_control _ s, passOp_sameScan _ s, nofun⟩
  · obtain rfl := Host.Outcome.next.inj h
    exact ⟨fftOp_control s, fftOp_sameScan s, nofun⟩

/-- Settles O29: the frame of each command's loop. -/
theorem transformFrame : Obligations.TransformFrame := by
  intro i s t hw hi h
  obtain ⟨hc, hs, htr⟩ := exec_transformed hw hi h
  exact ⟨hc.extractor, hc.results, hc.faults, hc.sequencer, hs, hc.hostSide, hc.sameWave, hc.sameBufFrom, hc.bufLength,
    htr⟩

end Sys2Proof.Machine

/-! Proofs: the FFT Engine's results, BITREV as a permutation (R163, R164) and PASS's butterflies (R165 to R168). -/

namespace Sys2Proof.Machine

/-! ### What a loop's turns leave alone in BUF

A transform works on every entry in one turn only. So what stands in an entry after the loop is what its own turn put
there, from entries that nothing had touched before. -/

/-- In every state that differs from `s` in the data alone `f` keeps entry `m` of BUF. -/
def KeepsEntry (s : State) (m : Nat) (f : State → State) : Prop :=
  ∀ t, SameControl s t → bufRead (f t).buf m = bufRead t.buf m

section
variable {f : Nat → State → State} {s : State} {m n : Nat} (hf : ∀ k t, SameControl t (f k t))
include hf

theorem KeepsEntry.loopUp (h : ∀ k < n, KeepsEntry s m (f k)) : KeepsEntry s m (loopUp f n) := by
  intro t hc
  induction n with
  | zero => rfl
  | succ n ih =>
    rw [loopUp_succ, h n n.lt_succ_self _ (hc.trans (loopUp_control f hf n t))]
    exact ih fun k hk => h k (by omega)

/-- Where no turn but `g` changes an entry, the loop leaves in it what turn `g` does. -/
theorem bufRead_loopUp_own {g : Nat} (hg : g < n) (h : ∀ k < n, k ≠ g → KeepsEntry s m (f k)) :
    bufRead (loopUp f n s).buf m = bufRead (f g (loopUp f g s)).buf m := by
  induction n with
  | zero => omega
  | succ n ih =>
    rw [loopUp_succ]
    obtain rfl | hne := eq_or_ne g n
    · rfl
    · rw [h n n.lt_succ_self hne.symm _ (loopUp_control f hf n s)]
      exact ih (by omega) fun k hk => h k (by omega)

end

/-! ### BITREV writes BUF only (R164) -/

/-- At most BUF differs from `s` to `t`. -/
def OnlyBuf (s t : State) : Prop := t = { s with buf := t.buf }

theorem OnlyBuf.refl (s : State) : OnlyBuf s s := rfl

theorem OnlyBuf.trans {a b c : State} (h : OnlyBuf a b) (k : OnlyBuf b c) : OnlyBuf a c := by
  unfold OnlyBuf at h k ⊢
  rw [k, h]

theorem swapOp_onlyBuf (k : Nat) (s : State) : OnlyBuf s (swapOp k s) := by
  unfold OnlyBuf swapOp
  split <;> rfl

theorem bitrevOp_onlyBuf (s : State) : OnlyBuf s (bitrevOp s) := loopUp_relates swapOp .refl .trans swapOp_onlyBuf s.n s

/-! ### BITREV's entries (R163, R164) -/

theorem swapPartner_lt (s : State) (k : Nat) : swapPartner s k < s.n := by
  rw [State.n, ← two_pow_lgn]
  exact rev_lt k _

theorem swapPartner_swapPartner {s : State} {k : Nat} (hk : k < s.n) : swapPartner s (swapPartner s k) = k :=
  rev_rev ((two_pow_lgn s.cfg).symm ▸ hk)

theorem SameControl.swapPartner_eq {s t : State} (h : SameControl s t) (k : Nat) : swapPartner t k = swapPartner s k :=
  congrArg (fun c : Config => rev k c.lgn) h.hostSide.cfg

theorem swapOp_of_not_lt {s : State} {k : Nat} (h : ¬k < swapPartner s k) : swapOp k s = s := if_neg h

theorem swapOp_buf_of_lt {s : State} {k : Nat} (h : k < swapPartner s k) :
    (swapOp k s).buf = bufWrite (bufWrite s.buf k (bufRead s.buf (swapPartner s k))) (swapPartner s k)
      (bufRead s.buf k) := by
  rw [swapOp, if_pos h]

/-- R163: the turn of a pair is that of its lower entry, and gives each of the two the other's value. -/
theorem bufRead_swapOp_pair {s : State} (hl : s.buf.length = s.n) {m : Nat} (hm : m < s.n) :
    bufRead (swapOp (min m (swapPartner s m)) s).buf m = bufRead s.buf (swapPartner s m) := by
  obtain hlt | heq | hgt := lt_trichotomy m (swapPartner s m)
  · rw [min_eq_left hlt.le, swapOp_buf_of_lt hlt, bufRead_bufWrite_other _ _ _ hlt.ne,
      bufRead_bufWrite_same _ _ _ (hm.trans_eq hl.symm)]
  · rw [min_eq_left heq.le, swapOp_of_not_lt heq.not_lt, ← heq]
  · have hmm := swapPartner_swapPartner hm
    rw [min_eq_right hgt.le, swapOp_buf_of_lt (hgt.trans_eq hmm.symm), hmm,
      bufRead_bufWrite_same _ _ _ (by rwa [length_bufWrite, hl])]

/-- A SWAP that is not the turn of an entry's pair keeps the entry. -/
theorem swapOp_keepsEntry {s : State} {k m : Nat} (hk : k < s.n) (hne : k ≠ min m (swapPartner s m)) :
    KeepsEntry s m (swapOp k) := by
  intro t hc
  by_cases hlt : k < swapPartner t k
  · have hm : m ≠ swapPartner t k := by
      rintro rfl
      rw [hc.swapPartner_eq] at hlt hne
      rw [swapPartner_swapPartner hk] at hne
      omega
    have hmk : m ≠ k := by
      rintro rfl
      rw [hc.swapPartner_eq] at hlt
      omega
    rw [swapOp_buf_of_lt hlt, bufRead_bufWrite_other _ _ _ hm, bufRead_bufWrite_other _ _ _ hmk]
  · rw [swapOp_of_not_lt hlt]

/-- R164: after all the SWAPs entry `i` is the old entry `rev(i, L)`. -/
theorem bufRead_bitrevOp {s : State} (hl : s.buf.length = s.n) {i : Nat} (hi : i < s.n) :
    bufRead (bitrevOp s).buf i = bufRead s.buf (swapPartner s i) := by
  have hq := swapPartner_lt s i
  have hg : min i (swapPartner s i) < s.n := by omega
  have hc := loopUp_control swapOp swapOp_control (min i (swapPartner s i)) s
  have hturn := bufRead_swapOp_pair (hc.bufLength.trans (hl.trans hc.n_eq.symm)) (hi.trans_eq hc.n_eq.symm)
  rw [hc.swapPartner_eq] at hturn
  rw [bitrevOp, bufRead_loopUp_own swapOp_control hg fun k hk => swapOp_keepsEntry hk, hturn]
  refine KeepsEntry.loopUp swapOp_control (fun k hk => swapOp_keepsEntry (hk.trans hg) ?_) s (.refl s)
  rw [swapPartner_swapPartner hi]
  omega

/-- BITREV undoes itself, because `rev` does. -/
theorem bitrevOp_bitrevOp {s : State} (hl : s.buf.length = s.n) : bitrevOp (bitrevOp s) = s := by
  have hc := bitrevOp_control s
  have hcc := hc.trans (bitrevOp_control _)
  have hbuf : (bitrevOp (bitrevOp s)).buf = s.buf := Buffer.ext_reads hcc.bufLength fun i hi => by
    have hi : i < s.n := by rwa [← hl, ← hcc.bufLength]
    rw [bufRead_bitrevOp (by rw [hc.bufLength, hc.n_eq, hl]) (by rwa [hc.n_eq]), hc.swapPartner_eq,
      bufRead_bitrevOp hl (swapPartner_lt s i), swapPartner_swapPartner hi]
  have h : OnlyBuf s (bitrevOp (bitrevOp s)) := (bitrevOp_onlyBuf s).trans (bitrevOp_onlyBuf _)
  rw [h, hbuf]

/-- Settles O25: only BUF changes, every entry is its partner's, and partners are mutual. -/
theorem bitrevPermutes : Obligations.BitrevPermutes := by
  intro s hl
  refine ⟨(bitrevOp s).buf, congrArg Host.Outcome.next (bitrevOp_onlyBuf s), (bitrevOp_control s).bufLength.trans hl,
    fun i hi => bufRead_bitrevOp hl hi, ?_⟩
  calc execTimes .bitrev 2 s = .next (bitrevOp (bitrevOp s)) := rfl
    _ = .next s := by rw [bitrevOp_bitrevOp hl]

/-! ### One butterfly (R166) -/

/-- Entries `p` and `q` of `c` are the butterfly of those of `b` with root power `r`, its ten real operations named from
`d` up. -/
structure Butterfly (b c : Buffer) (p q d : Nat) (r : Cplx) : Prop where
  low : bufRead c p = cadd (d + 6) (bufRead b p) (cmul d (bufRead b q) r)
  high : bufRead c q = csub (d + 8) (bufRead b p) (cmul d (bufRead b q) r)

/-- A butterfly speaks of its two entries only. -/
theorem Butterfly.of_reads {b c b' c' : Buffer} {p q d : Nat} {r : Cplx} (h : Butterfly b c p q d r)
    (hr : ∀ m, m = p ∨ m = q → bufRead b m = bufRead b' m ∧ bufRead c' m = bufRead c m) : Butterfly b' c' p q d r := by
  obtain ⟨hbp, hcp⟩ := hr p (.inl rfl)
  obtain ⟨hbq, hcq⟩ := hr q (.inr rfl)
  exact ⟨by rw [hcp, h.low, hbp, hbq], by rw [hcq, h.high, hbp, hbq]⟩

/-- A butterfly in turn `g` is one of the whole loop where no other turn touches its two entries. -/
theorem Butterfly.of_turn {f : Nat → State → State} (hf : ∀ k t, SameControl t (f k t)) {s : State} {g n : Nat}
    (hg : g < n) {p q d : Nat} {r : Cplx} (hk : ∀ m, m = p ∨ m = q → ∀ k < n, k ≠ g → KeepsEntry s m (f k))
    (h : Butterfly (loopUp f g s).buf (f g (loopUp f g s)).buf p q d r) :
    Butterfly s.buf (loopUp f n s).buf p q d r :=
  h.of_reads fun m hm =>
    ⟨KeepsEntry.loopUp hf (fun k hkg => hk m hm k (hkg.trans hg) hkg.ne) s (.refl s), bufRead_loopUp_own hf hg (hk m hm)⟩

theorem bflyTurn_buf (p i j : Nat) (s : State) :
    (bflyTurn p i j s).buf = (bflyOp (bflyLow i j) (bflyHigh p i j) s).buf := rfl

theorem bflyTurn_butterfly {p i j : Nat} {s : State} (h : bflyHigh p i j < s.buf.length) :
    Butterfly s.buf (bflyTurn p i j s).buf (bflyLow i j) (bflyHigh p i j) s.draws s.rp := by
  have hlt : bflyLow i j < bflyHigh p i j := Nat.lt_add_of_pos_right (halfLength_pos p)
  rw [bflyTurn_buf, bflyOp_buf]
  constructor
  · rw [bufRead_bufWrite_other _ _ _ hlt.ne, bufRead_bufWrite_same _ _ _ (hlt.trans h)]
  · rw [bufRead_bufWrite_same _ _ _ (by rwa [length_bufWrite])]

theorem bflyTurn_keepsEntry (s : State) {p i j m : Nat} (hp : m ≠ bflyLow i j) (hq : m ≠ bflyHigh p i j) :
    KeepsEntry s m (bflyTurn p i j) := fun t _ => by
  rw [bflyTurn_buf, bflyOp_buf, bufRead_bufWrite_other _ _ _ hq, bufRead_bufWrite_other _ _ _ hp]

/-! ### The twiddle and the root power (R165, R167, R168) -/

/-- The root power at turn `j` of a group whose real operations are named from `d` up (16 a turn: BFLY's ten, then
RPMUL's six). -/
def rootPower (w : Cplx) (d : Nat) : Nat → Cplx
  | 0 => Cplx.one
  | j + 1 => cmul (d + 16 * j + 10) (rootPower w d j) w

/-- One turn of the outer loop of R168: group number `g`. -/
def passTurn (p g : Nat) (s : State) : State := groupOp p (groupStart p g) s

theorem passOp_eq (p : Nat) (s : State) : passOp p s = loopUp (passTurn p) (groupCount s p) (twiddleOp p s) := rfl

theorem passTurn_control (p g : Nat) (s : State) : SameControl s (passTurn p g s) := groupOp_control p (groupStart p g) s

section
variable (p i j : Nat) (s : State)

theorem loopUp_bflyTurn_w : (loopUp (bflyTurn p i) j s).w = s.w :=
  loopUp_keeps State.w (bflyTurn p i) (fun _ _ => rfl) j s

theorem loopUp_bflyTurn_draws : (loopUp (bflyTurn p i) j s).draws = s.draws + 16 * j := by
  induction j with
  | zero => rfl
  | succ j ih => rw [loopUp_succ, bflyTurn, rpMulOp_draws, bflyOp_draws, ih, Nat.mul_succ, Nat.add_assoc, Nat.add_assoc]

theorem loopUp_bflyTurn_rp : (loopUp (bflyTurn p i) j (startGroup s)).rp = rootPower s.w s.draws j := by
  induction j with
  | zero => rfl
  | succ j ih =>
    rw [loopUp_succ, bflyTurn, rpMulOp_rp, bflyOp_rp, bflyOp_w, bflyOp_draws, ih, loopUp_bflyTurn_w,
      loopUp_bflyTurn_draws, startGroup_w, startGroup_draws, rootPower]

theorem groupOp_w : (groupOp p i s).w = s.w := loopUp_bflyTurn_w p i _ _

theorem loopUp_passTurn_w (k : Nat) : (loopUp (passTurn p) k s).w = s.w :=
  loopUp_keeps State.w (passTurn p) (fun g => groupOp_w p (groupStart p g)) k s

theorem passOp_w : (passOp p s).w = twiddleOf s.cfg s.draws p := loopUp_passTurn_w p _ _

end

/-! ### One group (R168) -/

/-- R168: `half` is half of `len`. -/
theorem stepLength_eq {p : Nat} (hp : 1 ≤ p) : stepLength p = halfLength p + halfLength p := by
  obtain ⟨p, rfl⟩ := Nat.exists_eq_add_of_le' hp
  rw [stepLength, halfLength, Nat.add_sub_cancel, Nat.pow_succ, Nat.mul_two]

/-- A group keeps the entries outside it. -/
theorem groupOp_keepsEntry (s : State) {p i m : Nat} (hp : 1 ≤ p) (hm : m < i ∨ i + stepLength p ≤ m) :
    KeepsEntry s m (groupOp p i) := by
  have hlen := stepLength_eq hp
  have hturns : KeepsEntry s m (loopUp (bflyTurn p i) (halfLength p)) :=
    .loopUp (bflyTurn_control p i) fun k hk => bflyTurn_keepsEntry s (by rw [bflyLow]; omega) (by rw [bflyHigh]; omega)
  exact fun t hc => hturns (startGroup t) (hc.trans (startGroup_control t))

/-- Another turn of the group keeps the two entries of turn `j`. -/
theorem bflyTurn_keepsPair (s : State) {p i j k m : Nat} (hj : j < halfLength p) (hk : k < halfLength p) (hne : k ≠ j)
    (hm : m = bflyLow i j ∨ m = bflyHigh p i j) : KeepsEntry s m (bflyTurn p i k) := by
  rw [bflyLow, bflyHigh] at hm
  exact bflyTurn_keepsEntry s (by rw [bflyLow]; omega) (by rw [bflyHigh]; omega)

/-- R168: turn `j` of a group is the butterfly of the group's old entries with root power `j`. -/
theorem groupOp_butterfly {p i j : Nat} {s : State} (hp : 1 ≤ p) (hj : j < halfLength p)
    (hi : i + stepLength p ≤ s.buf.length) :
    Butterfly s.buf (groupOp p i s).buf (bflyLow i j) (bflyHigh p i j) (s.draws + 16 * j)
      (rootPower s.w s.draws j) := by
  have hlen := stepLength_eq hp
  have hc := loopUp_control (bflyTurn p i) (bflyTurn_control p i) j (startGroup s)
  have hturn := bflyTurn_butterfly (p := p) (i := i) (j := j) (s := loopUp (bflyTurn p i) j (startGroup s))
    (by rw [hc.bufLength, startGroup_buf, bflyHigh]; omega)
  rw [loopUp_bflyTurn_rp, loopUp_bflyTurn_draws, startGroup_draws] at hturn
  exact hturn.of_turn (bflyTurn_control p i) hj fun m hm k hk hne => bflyTurn_keepsPair _ hj hk hne hm

/-! ### All the groups of a pass (R168) -/

theorem groupStart_mono (p : Nat) {a b : Nat} (h : a ≤ b) : groupStart p a ≤ groupStart p b := Nat.mul_le_mul_right _ h

/-- Another group of the pass keeps the entries of group `g`. -/
theorem passTurn_keepsEntry (s : State) {p g k m : Nat} (hp : 1 ≤ p) (hne : k ≠ g) (hlo : groupStart p g ≤ m)
    (hhi : m < groupStart p (g + 1)) : KeepsEntry s m (passTurn p k) := by
  refine groupOp_keepsEntry s hp ?_
  rw [← groupStart_succ]
  obtain hlt | hgt := hne.lt_or_gt
  · exact .inr ((groupStart_mono p hlt).trans hlo)
  · exact .inl (hhi.trans_le (groupStart_mono p hgt))

/-- R168: the butterflies of group `g` are those of the entries from before the pass. -/
theorem passOp_butterfly {p g : Nat} {s : State} (h1 : 1 ≤ p) (hp : p ≤ s.cfg.lgn) (hl : s.buf.length = s.n)
    (hg : g < groupCount s p) :
    ∃ d, ∀ j < halfLength p, Butterfly s.buf (passOp p s).buf (bflyLow (groupStart p g) j)
      (bflyHigh p (groupStart p g) j) (d + 16 * j) (rootPower (passOp p s).w d j) := by
  have hc := loopUp_control (passTurn p) (passTurn_control p) g (twiddleOp p s)
  have hlen := stepLength_eq h1
  have hsucc := groupStart_succ p g
  have hin : groupStart p (g + 1) ≤ s.n := (groupStart_mono p hg).trans_eq (groupStart_groupCount hp)
  refine ⟨(loopUp (passTurn p) g (twiddleOp p s)).draws, fun j hj => ?_⟩
  have hgroup := groupOp_butterfly (i := groupStart p g) (s := loopUp (passTurn p) g (twiddleOp p s)) h1 hj
    (by rw [hc.bufLength, twiddleOp_buf]; omega)
  rw [loopUp_passTurn_w, twiddleOp_w, ← passOp_w] at hgroup
  rw [passOp_eq] at hgroup ⊢
  refine hgroup.of_turn (passTurn_control p) hg fun m hm k _ hne => ?_
  rw [bflyLow, bflyHigh] at hm
  exact passTurn_keepsEntry _ h1 hne (by omega) (by omega)

/-- Settles O26: the twiddle is TWIDDLE's, and each group has its root powers and its butterflies. -/
theorem passResult : Obligations.PassResult := by
  intro p s h1 hp hl
  refine ⟨passOp p.toNat s, exec_pass_of_wellFormed (wellFormed_pass_iff.2 ⟨h1, hp⟩),
    (passOp_control p.toNat s).bufLength.trans hl, ⟨s.draws, passOp_w _ s⟩, fun g hg => ?_⟩
  obtain ⟨d, hd⟩ := passOp_butterfly h1 hp hl hg
  exact ⟨rootPower (passOp p.toNat s).w d, rfl, fun j _ => ⟨_, rfl⟩,
    fun j hj => ⟨d + 16 * j, _, _, (hd j hj).low, (hd j hj).high⟩⟩

end Sys2Proof.Machine

/-! Proofs: the Block Aggregator, PEAK, BLOCK and RUN (R190 to R197). -/

namespace Sys2Proof

/-! ### Comparison (R117) -/

theorem flt_self (a : F64) : flt a a = false := by simp [flt]

theorem flt_asymm {a b : F64} (h : flt a b = true) : flt b a = false := by
  obtain ⟨ha, hb, hlt⟩ := flt_eq_true h
  exact (flt_eq_false_iff hb ha).2 hlt.le

/-- What is not above `b` is below everything that is. -/
theorem flt_of_not_flt_of_flt {a b c : F64} (ha : isNaN a = false) (hba : flt b a = false) (hbc : flt b c = true) :
    flt a c = true := by
  obtain ⟨hb, hc, hlt⟩ := flt_eq_true hbc
  exact (flt_iff ha hc).2 (((flt_eq_false_iff hb ha).1 hba).trans_lt hlt)

/-! ### The first of the greatest (R192) -/

/-- R192's rule: `i` is the index that the strict comparison selects among the first `n` of `m`. A NaN is never selected
after number 0, and nothing is selected after a NaN number 0. -/
structure IsFirstPeak (m : Nat → F64) (n i : Nat) : Prop where
  lt : i < n
  zero_of_nan : isNaN (m 0) = true → i = 0
  not_nan : isNaN (m 0) = false → isNaN (m i) = false
  greatest : isNaN (m 0) = false → ∀ k < n, flt (m i) (m k) = false
  first : isNaN (m 0) = false → ∀ k < i, isNaN (m k) = false → flt (m k) (m i) = true

section
variable {m : Nat → F64} {n i j : Nat}

theorem IsFirstPeak.zero : IsFirstPeak m 1 0 where
  lt := Nat.one_pos
  zero_of_nan _ := rfl
  not_nan := id
  greatest _ k hk := by rw [Nat.lt_one_iff.1 hk, flt_self]
  first _ := nofun

/-- One number more, above the selected one: it is selected. -/
theorem IsFirstPeak.of_flt (h : IsFirstPeak m n i) (hlt : flt (m i) (m n) = true) : IsFirstPeak m (n + 1) n where
  lt := n.lt_succ_self
  zero_of_nan h0 := by
    rw [h.zero_of_nan h0, flt_nan_left _ h0] at hlt
    cases hlt
  not_nan _ := (flt_eq_true hlt).2.1
  greatest h0 k hk := by
    obtain rfl | hkn := Nat.eq_or_lt_of_le (Nat.le_of_lt_succ hk)
    · exact flt_self _
    · cases hnan : isNaN (m k) with
      | true => exact flt_nan_right _ hnan
      | false => exact flt_asymm (flt_of_not_flt_of_flt hnan (h.greatest h0 k hkn) hlt)
  first h0 k hk hnan := flt_of_not_flt_of_flt hnan (h.greatest h0 k hk) hlt

/-- One number more, not above the selected one: the selection stays. -/
theorem IsFirstPeak.of_not_flt (h : IsFirstPeak m n i) (hlt : flt (m i) (m n) = false) : IsFirstPeak m (n + 1) i where
  lt := h.lt.trans n.lt_succ_self
  zero_of_nan := h.zero_of_nan
  not_nan := h.not_nan
  greatest h0 k hk := by
    obtain rfl | hkn := Nat.eq_or_lt_of_le (Nat.le_of_lt_succ hk)
    · exact hlt
    · exact h.greatest h0 k hkn
  first := h.first

/-- Of two selected numbers the earlier would be below the later, which it is not. -/
theorem IsFirstPeak.not_lt (hi : IsFirstPeak m n i) (hj : IsFirstPeak m n j) : ¬i < j := by
  intro hij
  cases h0 : isNaN (m 0) with
  | true =>
    rw [hj.zero_of_nan h0] at hij
    exact Nat.not_lt_zero i hij
  | false =>
    have hbelow := hj.first h0 i hij (hi.not_nan h0)
    rw [hi.greatest h0 j hj.lt] at hbelow
    cases hbelow

theorem IsFirstPeak.unique (hi : IsFirstPeak m n i) (hj : IsFirstPeak m n j) : i = j :=
  Nat.le_antisymm (Nat.le_of_not_lt (hj.not_lt hi)) (Nat.le_of_not_lt (hi.not_lt hj))

end

end Sys2Proof

namespace Sys2Proof.Machine

/-! ### PEAK (R191 to R193) -/

/-- R191: the magnitude of entry `k` as a PEAK from `s` takes it, with the four real operations of its turn. -/
def entryMagnitude (s : State) (k : Nat) : F64 := cmag (s.draws + 4 * k) (bufRead s.buf k)

/-- `t` is where a PEAK from `s` stands when it has looked at the first `k` entries. -/
structure Scanned (s : State) (k : Nat) (t : State) : Prop where
  buf : t.buf = s.buf
  draws : t.draws = s.draws + 4 * k
  bm : t.bm = entryMagnitude s t.bi.toNat
  peak : IsFirstPeak (entryMagnitude s) k t.bi.toNat

theorem scanStart_scanned (s : State) : Scanned s 1 (scanStart s) := ⟨rfl, rfl, rfl, .zero⟩

theorem scanStep_of_flt {k : Nat} {s : State} (h : flt s.bm (cmag s.draws (bufRead s.buf k)) = true) :
    scanStep k s =
      { s with bi := BitVec.ofNat 32 k, bm := cmag s.draws (bufRead s.buf k), draws := s.draws + 4 } :=
  if_pos h

theorem scanStep_of_not_flt {k : Nat} {s : State} (h : flt s.bm (cmag s.draws (bufRead s.buf k)) = false) :
    scanStep k s = { s with draws := s.draws + 4 } :=
  if_neg (Bool.not_eq_true _ ▸ h)

/-- R192: CMPSEL keeps or takes, as the comparison says. -/
protected theorem Scanned.scanStep {s t : State} {k : Nat} (h : Scanned s k t) (hk : k < 2 ^ 32) :
    Scanned s (k + 1) (scanStep k t) := by
  have hmag : cmag t.draws (bufRead t.buf k) = entryMagnitude s k := by
    rw [h.draws, h.buf]
    rfl
  have hdraws : t.draws + 4 = s.draws + 4 * (k + 1) := by rw [h.draws, Nat.mul_succ, Nat.add_assoc]
  cases hlt : flt (entryMagnitude s t.bi.toNat) (entryMagnitude s k) with
  | true =>
    have hbi : (BitVec.ofNat 32 k).toNat = k := by rw [BitVec.toNat_ofNat, Nat.mod_eq_of_lt hk]
    rw [scanStep_of_flt (by rw [h.bm, hmag, hlt])]
    exact ⟨h.buf, hdraws, hmag.trans (congrArg _ hbi.symm), hbi.symm ▸ h.peak.of_flt hlt⟩
  | false =>
    rw [scanStep_of_not_flt (by rw [h.bm, hmag, hlt])]
    exact ⟨h.buf, hdraws, h.bm, h.peak.of_not_flt hlt⟩

theorem scanOp_scanned (s : State) : Scanned s s.n (scanOp s) := by
  have hn : s.n ≤ 2 ^ 30 := (Config.bounds s.cfg).2.1
  have h := loopUp_induction (P := fun k t => Scanned s (k + 1) t) (fun k => scanStep (k + 1)) (s.n - 1) (scanStart s)
    (scanStart_scanned s) fun k t hk ht => ht.scanStep (by omega)
  rwa [Nat.sub_add_cancel (n_pos s)] at h

/-- R126: RCOUNT counts modulo `2^32`. -/
theorem Appended.rcount_toNat {s t : State} (h : Appended s t) : t.rcount.toNat = (s.rcount.toNat + 1) % 2 ^ 32 := by
  rw [h.rcount, BitVec.toNat_add]
  rfl

/-- Settles O30: the scan selects the first of the greatest magnitudes, and PEAK records it. -/
theorem peakResult : Obligations.PeakResult := by
  intro s _
  have h := scanOp_scanned s
  have ha := peakOp_appended s
  have hmag : (peakOp s).pkmag = entryMagnitude s (scanOp s).bi.toNat := h.bm
  exact ⟨peakOp s, entryMagnitude s, (scanOp s).bi.toNat, rfl, h.peak.lt, fun k _ => ⟨_, rfl⟩, hmag ▸ ha.res, hmag, rfl,
    ha.rcount_toNat, h.peak.zero_of_nan, fun h0 => ⟨h.peak.not_nan h0, h.peak.greatest h0, h.peak.first h0⟩⟩

theorem scanStep_sameTransform (k : Nat) (s : State) : SameTransform s (scanStep k s) :=
  ⟨scanStep_u s k, scanStep_v s k, scanStep_rp s k, scanStep_w s k⟩

theorem peakOp_sameTransform (s : State) : SameTransform s (peakOp s) :=
  have h : SameTransform (scanStart s) (scanOp s) :=
    loopUp_sameTransform _ (fun k => scanStep_sameTransform (k + 1)) _ _
  ⟨h.u, h.v, h.rp, h.w⟩

/-- Settles O31: PEAK writes no more than the results and BM, BI. -/
theorem peakFrame : Obligations.PeakFrame := by
  intro s t h
  obtain rfl := Host.Outcome.next.inj h
  obtain ⟨hw, hx, hf, hq, hh⟩ := peakOp_keeps s
  exact ⟨hx, hf, hq, peakOp_sameTransform s, hh, fun a => congrArg (waveByte · a) hw, peakOp_buf s⟩

/-! ### What BLOCK and RUN leave alone (R194, R196) -/

/-- The fault record and the sequencer are as before. -/
structure TakesNoFault (s t : State) : Prop where
  faults : SameFaults s t
  sequencer : SameSequencer s t

theorem TakesNoFault.refl (s : State) : TakesNoFault s s := ⟨.refl s, .refl s⟩

theorem TakesNoFault.trans {a b c : State} (h : TakesNoFault a b) (k : TakesNoFault b c) : TakesNoFault a c :=
  ⟨h.faults.trans k.faults, h.sequencer.trans k.sequencer⟩

theorem extractOp_takesNoFault (s : State) : TakesNoFault s (extractOp s) :=
  ⟨⟨extractOp_fault s, extractOp_cause s, extractOp_finfo s⟩, ⟨extractOp_busy s, extractOp_seq s⟩⟩

theorem Pipelined.takesNoFault {s t : State} (h : Pipelined s t) : TakesNoFault s t := ⟨h.faults, h.sequencer⟩

theorem WorkKeeps.sameWave {s t : State} (h : WorkKeeps s t) : SameWave s t := fun a => congrArg (waveByte · a) h.wave

/-! ### BLOCK (R194) -/

/-- BLOCK where a block is left sends it through the pipeline, which runs. -/
theorem exec_block_of_fits {s : State} (he : s.exh = false) (hf : s.left.toNat + s.n ≤ s.wlen.toNat) :
    ∃ t, pipelineOp (extractOp s) = .next t ∧ Pipelined (extractOp s) t ∧ exec .block s = .next t := by
  have hx := extractOp_of_fits he hf
  obtain ⟨t, ht, hp⟩ := pipelineOp_runs (extractOp s) (by rw [hx]; exact hf)
  exact ⟨t, ht, hp, (exec_block_of_bv (by rw [hx])).trans ht⟩

/-- Settles O33: EXTRACT yields the block and moves LEFT, the pipeline appends the result and keeps the rest. -/
theorem blockResult : Obligations.BlockResult := by
  intro s he hf
  have hx := extractOp_of_fits he hf
  obtain ⟨t, -, hp, hrun⟩ := exec_block_of_fits he hf
  have hk := exec_workKeeps hrun
  have hnf := (extractOp_takesNoFault s).trans hp.takesNoFault
  refine ⟨t, t.pkmag, hrun, ?_, ?_, ?_, ?_, hk.wlen, ?_, rfl, ?_, ?_, hnf.faults, hnf.sequencer, hk.hostSide,
    hk.sameWave⟩
  · rw [hp.extractor.cur, hx]
  · rw [hp.extractor.left, hx]
    exact left_add_stepSize s hf
  · rw [hp.extractor.bv, hx]
  · rw [hp.extractor.exh, hx]
    exact he
  · rw [hp.appended.res, extractOp_res]
  · exact extractOp_n s ▸ hp.appended.pkidx
  · rw [hp.appended.rcount_toNat, extractOp_rcount]

/-- EXTRACT on an extractor that is or becomes exhausted, under R29's invariant. -/
theorem extractOp_of_exhausted {s : State} (hinv : ¬(s.bv = true ∧ s.exh = true))
    (h : s.exh = true ∨ s.wlen.toNat < s.left.toNat + s.n) : extractOp s = { s with bv := false, exh := true } := by
  cases he : s.exh with
  | true =>
    have hb : s.bv = false := by simpa [he] using hinv
    rw [extractOp_of_exh he, ← he, ← hb]
  | false => exact extractOp_of_not_fits he (Nat.not_le.2 (h.resolve_left (by simp [he])))

/-- Settles O34: without a block BLOCK ends after its EXTRACT. -/
theorem blockWhenExhausted : Obligations.BlockWhenExhausted := by
  intro s hinv h
  have hx := extractOp_of_exhausted hinv h
  rw [exec_block_of_not_bv (by rw [hx]), hx]

/-! ### RUN (R195, R196) -/

/-- Under R29's invariant RUN goes on exactly where EXTRACT has yielded a block. -/
theorem runContinues_eq_bv {s : State} (h : ¬(s.bv = true ∧ s.exh = true)) :
    runContinues (extractOp s) = (extractOp s).bv := by
  simp [runContinues, extractOp_exh h]

theorem exec_run_stops {s : State} (h : runContinues (extractOp s) = false) : exec .run s = .next (extractOp s) :=
  runLoop_stops h _

/-- R196: every turn that goes on raises LEFT, which stays below WLEN; the last EXTRACT finds no block. -/
theorem exec_run_exhausts {s : State} (h : ¬(s.bv = true ∧ s.exh = true)) :
    ∃ t, exec .run s = .next t ∧ t.bv = false ∧ t.exh = true := by
  induction hk : s.wlen.toNat - s.left.toNat using Nat.strong_induction_on generalizing s with
  | h k ih =>
    cases hc : runContinues (extractOp s) with
    | true =>
      obtain ⟨t, ht, -, hleft, hwlen, -, -, -, hexh⟩ := runLoop_turn hc
      obtain ⟨-, hfit, -⟩ := runContinues_extractOp hc
      have hn := n_pos s
      have hstride := (Config.bounds s.cfg).2.2.1
      rw [(exec_run_goes_on hc ht).1]
      exact ih _ (by rw [hwlen, hleft]; omega) (by simp [hexh]) rfl
    | false =>
      have hbv := (runContinues_eq_bv h).symm.trans hc
      exact ⟨extractOp s, exec_run_stops hc, hbv, by rw [extractOp_exh h, hbv]; rfl⟩

theorem exec_run_takesNoFault {s t : State} (h : exec .run s = .next t) : TakesNoFault s t :=
  runLoop_relates .refl .trans extractOp_takesNoFault Pipelined.takesNoFault h

/-- R195: where EXH = 1 already RUN changes nothing. -/
theorem exec_run_of_exh {s : State} (he : s.exh = true) : exec .run s = .next s := by
  have hx := extractOp_of_exh he
  rw [exec_run_stops (by simp [hx, runContinues, he]), hx]

/-- Settles O36: RUN ends with its last EXTRACT, and what it does on the way is EXTRACTs and pipelines. -/
theorem runResult : Obligations.RunResult := by
  intro s hinv
  obtain ⟨t, ht, hbv, hexh⟩ := exec_run_exhausts hinv
  have hk := exec_workKeeps ht
  have hnf := exec_run_takesNoFault ht
  obtain ⟨l, hl⟩ := hk.res
  exact ⟨t, ht, hbv, hexh, hk.wlen, fun he => Host.Outcome.next.inj (ht.symm.trans (exec_run_of_exh he)), ⟨l, hl.symm⟩,
    hnf.faults, hnf.sequencer, hk.hostSide, hk.sameWave⟩

/-! ### What a block's result depends on (R197)

Two runs that have the same data in BUF compute the same: each stage reads nothing else that it has not written. -/

/-- What the transform starts from is the same in `s` and `t`: BUF, the configuration, and the free values to come. -/
structure SameData (s t : State) : Prop where
  cfg : t.cfg = s.cfg
  draws : t.draws = s.draws
  buf : t.buf = s.buf

/-- Inside a pass: the twiddle too. -/
structure SameTwiddle (s t : State) : Prop extends SameData s t where
  w : t.w = s.w

/-- Inside a group: the root power too. -/
structure SameRoot (s t : State) : Prop extends SameTwiddle s t where
  rp : t.rp = s.rp

theorem SameData.n_eq {s t : State} (h : SameData s t) : t.n = s.n := congrArg Config.blockSize h.cfg

/-- The same loop from two states: what relates them before and is kept by every turn relates them afterwards. -/
theorem loopUp_pair {R : State → State → Prop} {f : Nat → State → State} (hf : ∀ {a b} k, R a b → R (f k a) (f k b))
    {s t : State} (h : R s t) (n : Nat) : R (loopUp f n s) (loopUp f n t) := by
  induction n with
  | zero => exact h
  | succ n ih => exact hf n ih

section
variable {s t : State}

protected theorem SameData.swapOp (h : SameData s t) (k : Nat) : SameData (swapOp k s) (swapOp k t) := by
  have hp : swapPartner t k = swapPartner s k := congrArg (fun c : Config => rev k c.lgn) h.cfg
  refine ⟨by simp [h.cfg], by simp [h.draws], ?_⟩
  by_cases hlt : k < swapPartner s k
  · rw [swapOp_buf_of_lt hlt, swapOp_buf_of_lt (hp.symm ▸ hlt), hp, h.buf]
  · rw [swapOp_of_not_lt hlt, swapOp_of_not_lt (hp.symm ▸ hlt), h.buf]

protected theorem SameData.bitrevOp (h : SameData s t) : SameData (bitrevOp s) (bitrevOp t) := by
  unfold bitrevOp
  rw [h.n_eq]
  exact loopUp_pair (fun k hk => hk.swapOp k) h s.n

/-- TWIDDLE reads the configuration, the pass number and the free value that comes next (R165). -/
protected theorem SameData.twiddleOp (h : SameData s t) (p : Nat) : SameTwiddle (twiddleOp p s) (twiddleOp p t) where
  cfg := h.cfg
  draws := by simp [h.draws]
  buf := h.buf
  w := by simp [h.cfg, h.draws]

protected theorem SameTwiddle.startGroup (h : SameTwiddle s t) : SameRoot (startGroup s) (startGroup t) :=
  { h with rp := rfl }

protected theorem SameRoot.bflyTurn (h : SameRoot s t) (p i j : Nat) :
    SameRoot (bflyTurn p i j s) (bflyTurn p i j t) where
  cfg := h.cfg
  draws := by simp [bflyTurn, h.draws]
  buf := by simp [bflyTurn, h.draws, h.buf, h.rp]
  w := h.w
  rp := by simp [bflyTurn, h.draws, h.w, h.rp]

protected theorem SameTwiddle.groupOp (h : SameTwiddle s t) (p i : Nat) : SameTwiddle (groupOp p i s) (groupOp p i t) :=
  (loopUp_pair (fun j hj => hj.bflyTurn p i j) h.startGroup (halfLength p)).toSameTwiddle

protected theorem SameData.passOp (h : SameData s t) (p : Nat) : SameData (passOp p s) (passOp p t) := by
  have hg : groupCount t p = groupCount s p := congrArg (· / stepLength p) h.n_eq
  rw [passOp_eq, passOp_eq, hg]
  exact (loopUp_pair (fun g hk => hk.groupOp p (groupStart p g)) (h.twiddleOp p) (groupCount s p)).toSameData

protected theorem SameData.fftOp (h : SameData s t) : SameData (fftOp s) (fftOp t) := by
  unfold fftOp
  rw [h.cfg]
  exact loopUp_pair (fun k hk => hk.passOp (k + 1)) h.bitrevOp s.cfg.lgn

/-- PEAK's index and magnitude are those of R192's rule, which selects one entry; BUF it only reads. -/
protected theorem SameData.peakOp (h : SameData s t) :
    (peakOp t).pkidx = (peakOp s).pkidx ∧ (peakOp t).pkmag = (peakOp s).pkmag ∧ (peakOp t).buf = (peakOp s).buf := by
  have hm : entryMagnitude t = entryMagnitude s := by
    unfold entryMagnitude
    rw [h.draws, h.buf]
  have hs := scanOp_scanned s
  have ht := scanOp_scanned t
  rw [h.n_eq] at ht
  have hi : (scanOp t).bi.toNat = (scanOp s).bi.toNat := (hm ▸ ht.peak).unique hs.peak
  refine ⟨BitVec.eq_of_toNat_eq hi, ?_, by rw [peakOp_buf, peakOp_buf, h.buf]⟩
  calc (scanOp t).bm = entryMagnitude t (scanOp t).bi.toNat := ht.bm
    _ = entryMagnitude s (scanOp s).bi.toNat := by rw [hm, hi]
    _ = (scanOp s).bm := hs.bm.symm

end

/-- R151 to R153: WINDOW writes every entry, from the samples of the current block. -/
theorem loopUp_winElem_sameData {s t : State} (hcfg : t.cfg = s.cfg) (hdraws : t.draws = s.draws)
    (hs : s.buf.length = s.n) (ht : t.buf.length = t.n)
    (hsamples : ∀ i < s.n, waveRead t.wave (sampleIndex t i) = waveRead s.wave (sampleIndex s i)) :
    SameData (loopUp winElem s.n s) (loopUp winElem t.n t) := by
  have hn : t.n = s.n := congrArg Config.blockSize hcfg
  have hcs := loopUp_control winElem winElem_control s.n s
  have hct := loopUp_control winElem winElem_control t.n t
  refine ⟨?_, ?_, Buffer.ext_reads ?_ fun i hi => ?_⟩
  · rw [hct.hostSide.cfg, hcs.hostSide.cfg, hcfg]
  · rw [loopUp_winElem_draws, loopUp_winElem_draws, hdraws, hn]
  · rw [hct.bufLength, hcs.bufLength, hs, ht, hn]
  · have hi : i < t.n := by rwa [hct.bufLength, ht] at hi
    have his : i < s.n := hn ▸ hi
    rw [bufRead_loopUp_winElem hi ht.ge, bufRead_loopUp_winElem his hs.ge, windowEntry, windowEntry, hcfg, hdraws,
      hsamples i his]

/-- Settles O38: WINDOW makes BUF the same in both states, and the transform and PEAK keep it so. -/
theorem resultDependsOnlyOnSamples : Obligations.ResultDependsOnlyOnSamples := by
  intro s t hcfg hdraws hs ht hse hte hsf htf hsamples
  obtain ⟨s', hs', hps, hruns⟩ := exec_block_of_fits hse hsf
  obtain ⟨t', ht', hpt, hrunt⟩ := exec_block_of_fits hte htf
  have hcurs : (extractOp s).cur = s.left := by rw [extractOp_of_fits hse hsf]
  have hcurt : (extractOp t).cur = t.left := by rw [extractOp_of_fits hte htf]
  have hwindow : SameData (loopUp winElem (extractOp s).n (extractOp s))
      (loopUp winElem (extractOp t).n (extractOp t)) :=
    loopUp_winElem_sameData (by simp [hcfg]) (by simp [hdraws]) (by simp [hs]) (by simp [ht]) fun i hi => by
      rw [sampleIndex, sampleIndex, hcurs, hcurt, extractOp_wave, extractOp_wave, hsamples i (extractOp_n s ▸ hi)]
  obtain ⟨-, hs'⟩ := pipelineOp_eq_next.1 hs'
  obtain ⟨-, ht'⟩ := pipelineOp_eq_next.1 ht'
  obtain ⟨hidx, hmag, hbuf⟩ := hwindow.fftOp.peakOp
  rw [← hs', ← ht'] at hidx hmag hbuf
  refine ⟨s', t', s'.pkmag, hruns, hrunt, ?_, ?_, hidx.symm, hbuf.symm⟩
  · rw [hps.appended.res, extractOp_res]
  · rw [hpt.appended.res, extractOp_res, hmag]

end Sys2Proof.Machine

/-! Proofs: what a CMD write does (R213, R214), how a fault is taken (R211, R215, R216), what it holds off until reset
(R217), and that every command completes (R210). -/

namespace Sys2Proof.Machine

/-! ### Commands and the faults they take (R211 to R213, R216) -/

/-- R213: without a current block WINDOW takes NO_BLOCK. -/
theorem exec_window_of_not_bv {s : State} (h : s.bv = false) :
    exec .window s = .next (raiseFault causeNoBlock (encode .window) s) :=
  if_neg (by simp [h])

/-- Settles O24: between commands fault entry changes the fault record only. -/
theorem windowWithoutBlock : Obligations.WindowWithoutBlock := by
  intro s hbv hb hq
  rw [exec_window_of_not_bv hbv, raiseFault_of_rest hb hq]
  rfl

/-- Fault entry from `s` with one of the two causes of R211. -/
def FaultEntry (s t : State) : Prop :=
  ∃ k x, (k = causeIllegalCmd ∨ k = causeNoBlock) ∧ t = raiseFault k x s

theorem faultEntry_illegalCmd (x : Word) (s : State) : FaultEntry s (raiseFault causeIllegalCmd x s) :=
  ⟨_, x, .inl rfl, rfl⟩

theorem faultEntry_noBlock (x : Word) (s : State) : FaultEntry s (raiseFault causeNoBlock x s) :=
  ⟨_, x, .inr rfl, rfl⟩

theorem SameControl.takesNoFault {s t : State} (h : SameControl s t) : TakesNoFault s t := ⟨h.faults, h.sequencer⟩

/-- R216: a command takes no fault, or it enters one from the state it found: PASS with a number out of range, WINDOW
without a current block. -/
theorem exec_takesNoFault_or {c : Instr} {s t : State} (ht : exec c s = .next t) :
    TakesNoFault s t ∨ ((c.wellFormed s.cfg = false ∨ (c = .window ∧ s.bv = false)) ∧ FaultEntry s t) := by
  cases c with
  | rewind => exact .inl (Host.Outcome.next.inj ht ▸ ⟨⟨rfl, rfl, rfl⟩, ⟨rfl, rfl⟩⟩)
  | extract => exact .inl (Host.Outcome.next.inj ht ▸ extractOp_takesNoFault s)
  | window =>
    obtain hc | ⟨hbv, rfl⟩ := execWindow_cases ht
    · exact .inl hc.takesNoFault
    · exact .inr ⟨.inr ⟨rfl, hbv⟩, faultEntry_noBlock _ s⟩
  | bitrev => exact .inl (Host.Outcome.next.inj ht ▸ (bitrevOp_control s).takesNoFault)
  | pass p =>
    obtain hc | ⟨hp, rfl⟩ := execPass_cases ht
    · exact .inl hc.takesNoFault
    · exact .inr ⟨.inl hp, faultEntry_illegalCmd _ s⟩
  | fft => exact .inl (Host.Outcome.next.inj ht ▸ (fftOp_control s).takesNoFault)
  | peak => exact .inl (Host.Outcome.next.inj ht ▸ (peakOp_pipelined s).takesNoFault)
  | block =>
    have hx := extractOp_takesNoFault s
    obtain rfl | hp := execBlock_cases ht
    · exact .inl hx
    · exact .inl (hx.trans hp.takesNoFault)
  | run => exact .inl (exec_run_takesNoFault ht)

/-- R210: only WINDOW and BLOCK ask anything of the current block; RUN extracts its own. -/
theorem exec_completes_of_ne {c : Instr} (hw : c ≠ .window) (hb : c ≠ .block) (s : State) :
    ∃ t, exec c s = .next t := by
  cases c with
  | window => exact absurd rfl hw
  | block => exact absurd rfl hb
  | pass p =>
    cases h : (Instr.pass p).wellFormed s.cfg with
    | true => exact ⟨_, exec_pass_of_wellFormed h⟩
    | false => exact ⟨_, exec_pass_of_not_wellFormed h⟩
  | run =>
    obtain ⟨t, ht, -⟩ := runLoop_completes (runFuel s) s (by unfold runFuel; omega) (Nat.succ_pos _)
    exact ⟨t, ht⟩
  | rewind | extract | bitrev | fft | peak => exact ⟨_, rfl⟩

/-- Settles O17: the command completes, its premises exclude both faults, and a command's work keeps the rest. -/
theorem everyCommandCompletes : Obligations.EveryCommandCompletes := by
  intro i s hwf hbv hin
  have hrun : ∃ t, exec i s = .next t := by
    by_cases hi : i = .window ∨ i = .block
    · exact exec_completes i (hin hi)
    · obtain ⟨hw, hb⟩ := not_or.1 hi
      exact exec_completes_of_ne hw hb s
  obtain ⟨t, ht⟩ := hrun
  have hk := exec_workKeeps ht
  obtain hnf | ⟨hwf' | ⟨hi, hbv'⟩, -⟩ := exec_takesNoFault_or ht
  · exact ⟨t, ht, hnf.faults, hnf.sequencer, hk.hostSide, hk.sameWave⟩
  · exact absurd (hwf.symm.trans hwf') nofun
  · exact absurd ((hbv hi).symm.trans hbv') nofun

/-! ### Acceptance (R214) -/

section
variable {s : State}

/-- R214, first case: while FAULT = 1 the write is discarded. -/
theorem cmdWrite_of_fault (hf : s.fault = true) (x : Word) : cmdWrite x s = .next s := if_pos hf

theorem cmdBegin_of_fault (hf : s.fault = true) (x : Word) : cmdBegin x s = s := if_pos hf

/-- R214, second case: a word that decodes to nothing. -/
theorem cmdWrite_of_illegal {x : Word} {e : Illegal} (hf : s.fault = false) (hd : decode s.cfg x = .error e) :
    cmdWrite x s = .next (raiseFault causeIllegalCmd x s) := by
  simp [cmdWrite, hf, hd]

/-- R214, third case: the word of WINDOW without a current block, which FINFO then holds. -/
theorem cmdWrite_of_noBlock {x : Word} (hf : s.fault = false) (hd : decode s.cfg x = .ok .window)
    (hbv : s.bv = false) : cmdWrite x s = .next (raiseFault causeNoBlock x s) := by
  rw [cmdWrite_of_decode hf hd, exec_window_of_not_bv hbv, (decode_eq_ok hd).1]

/-- Settles O6: in whatever form it comes the write is `cmdWrite`, whose cases these are. -/
theorem commandAcceptanceOrder : Obligations.CommandAcceptanceOrder := by
  intro s op x rest hb hq hh hw
  have hs : step s = cmdWrite x { s with host := rest } :=
    (step_of_idle hb hh).trans (hostPerform_registerWrite hw _)
  have hentry (k : BitVec 4) :
      raiseFault k x { s with host := rest } = { s with host := rest, fault := true, cause := k, finfo := x } :=
    raiseFault_of_rest (s := { s with host := rest }) hb hq k x
  refine ⟨fun hf => ?_, fun hf hd => ?_, fun hf hd hbv => ?_, fun i hf hd _ => ?_⟩ <;> rw [hs]
  · exact cmdWrite_of_fault (s := { s with host := rest }) hf x
  · cases he : decode s.cfg x with
    | ok i => simp [he, Except.toOption] at hd
    | error e => rw [cmdWrite_of_illegal (s := { s with host := rest }) hf he, hentry, causeIllegalCmd]
  · rw [cmdWrite_of_noBlock (s := { s with host := rest }) hf hd hbv, hentry, causeNoBlock]
  · exact cmdWrite_of_decode (s := { s with host := rest }) hf hd

end

/-! ### Host operations and the fault record (R215 to R217) -/

/-- A host access to WAVE, BUF or what the CORE shows of itself leaves the extractor, the results and the fault record
alone. -/
structure PlainAccess (s t : State) : Prop where
  extractor : SameExtractor s t
  results : SameResults s t
  faults : SameFaults s t

theorem PlainAccess.refl (s : State) : PlainAccess s s := ⟨.refl s, .refl s, .refl s⟩

theorem giveHost_plainAccess (v : BitVec 64) (s : State) : PlainAccess s (giveHost v s) :=
  ⟨⟨rfl, rfl, rfl, rfl, rfl⟩, ⟨rfl, rfl, rfl, rfl⟩, ⟨rfl, rfl, rfl⟩⟩

theorem receiveOp_plainAccess (s : State) : PlainAccess s (receiveOp s) := by
  unfold receiveOp
  split
  · exact ⟨⟨rfl, rfl, rfl, rfl, rfl⟩, ⟨rfl, rfl, rfl, rfl⟩, ⟨rfl, rfl, rfl⟩⟩
  · exact .refl s

/-- R77: a host operation other than a reset writes a register, has a command taken up, or is a plain access. -/
theorem hostPerform_cases {op : HostOp} {s t : State} (ho : op ≠ .reset) (ht : hostPerform op s = .next t) :
    (∃ k x, registerWrite op = some (k, x) ∧ csrWrite k x s = .next t) ∨ (∃ x, t = cmdBegin x s) ∨ PlainAccess s t := by
  cases hw : registerWrite op with
  | some kx => exact .inl ⟨kx.1, kx.2, rfl, (hostPerform_registerWrite hw s).symm.trans ht⟩
  | none =>
    refine .inr ?_
    cases op with
    | writeCsr | storeCsr64 => cases hw
    | reset => exact absurd rfl ho
    | beginCmd x => exact .inl ⟨x, (Host.Outcome.next.inj ht).symm⟩
    | receive => exact .inr (Host.Outcome.next.inj ht ▸ receiveOp_plainAccess s)
    | readWave | readCsr | readBuf => exact .inr (Host.Outcome.next.inj ht ▸ giveHost_plainAccess _ s)
    | storeCsr32 w x =>
      have hodd : ¬w % 2 = 0 := by simpa [registerWrite] using hw
      exact .inr (Host.Outcome.next.inj ((if_neg hodd).symm.trans ht) ▸ .refl s)
    | writeWave | writeBuf | wait =>
      exact .inr (Host.Outcome.next.inj ht ▸ ⟨⟨rfl, rfl, rfl, rfl, rfl⟩, ⟨rfl, rfl, rfl, rfl⟩, ⟨rfl, rfl, rfl⟩⟩)

/-- R40: a register write is one of WLEN, one of CMD, or ignored. -/
theorem csrWrite_cases {k : Nat} {x : Word} {s t : State} (ht : csrWrite k x s = .next t) :
    (k = 2 ∧ t = wlenWrite x s) ∨ cmdWrite x s = .next t ∨ t = s := by
  unfold csrWrite at ht
  split at ht
  · exact .inl ⟨rfl, (Host.Outcome.next.inj ht).symm⟩
  · exact .inr (.inl ht)
  · exact .inr (.inr (Host.Outcome.next.inj ht).symm)

/-- R214: a CMD write leaves FAULT alone or enters a fault from the state it found. -/
theorem cmdWrite_fault_or {x : Word} {s t : State} (ht : cmdWrite x s = .next t) :
    t.fault = s.fault ∨ FaultEntry s t := by
  unfold cmdWrite at ht
  split at ht
  · exact .inl (congrArg State.fault (Host.Outcome.next.inj ht).symm)
  · split at ht
    · exact .inr (Host.Outcome.next.inj ht ▸ faultEntry_illegalCmd x s)
    · exact (exec_takesNoFault_or ht).imp (·.faults.fault) (·.2)

/-- R214, R44: so does a write that the sequencer takes up. -/
theorem cmdBegin_fault_or (x : Word) (s : State) : (cmdBegin x s).fault = s.fault ∨ FaultEntry s (cmdBegin x s) := by
  unfold cmdBegin
  split
  · exact .inl rfl
  · split
    · exact .inr (faultEntry_illegalCmd x s)
    · split
      · exact .inl rfl
      · exact .inr (faultEntry_noBlock x s)
    · exact .inl rfl

theorem hostPerform_fault_or {op : HostOp} {s t : State} (ho : op ≠ .reset) (ht : hostPerform op s = .next t) :
    t.fault = s.fault ∨ FaultEntry s t := by
  obtain ⟨k, x, -, hw⟩ | ⟨x, rfl⟩ | hp := hostPerform_cases ho ht
  · obtain ⟨-, rfl⟩ | hc | rfl := csrWrite_cases hw
    · exact .inl rfl
    · exact cmdWrite_fault_or hc
    · exact .inl rfl
  · exact cmdBegin_fault_or x s
  · exact .inl hp.faults.fault

/-! ### Faults are precise (R216) -/

theorem MicroOp.fault_eq {s u : State} (h : MicroOp s u) : u.fault = s.fault := by
  cases h with
  | control h => exact h.faults.fault
  | rewind => rfl
  | extract => exact extractOp_fault s
  | append h => exact h.faults.fault

/-- R214: an accepted command takes no fault at any of its micro-steps. -/
theorem microStep_fault {s t : State} (h : microStep s = .next t) : t.fault = s.fault := by
  obtain ⟨u, ho, hm⟩ := microStep_moves h
  rw [hm]
  exact ho.fault_eq

/-- R217: inside a command no fault has been taken. -/
theorem State.Inv.busy_of_fault {s : State} (h : s.Inv) (hf : s.fault = true) : s.busy = false :=
  Bool.eq_false_iff.2 fun hb => by
    obtain ⟨c, hw, -⟩ := h.working hb
    exact Bool.false_ne_true (hw.noFault.symm.trans hf)

/-- Settles O7: only a host operation enters a fault, and it does so between commands. -/
theorem faultsArePrecise : Obligations.FaultsArePrecise := by
  intro s t hs ht hsf htf
  have hne : t.fault ≠ s.fault := by simp [hsf, htf]
  obtain rfl | ⟨-, l, hm⟩ | ⟨op, rest, hh, ho, hp⟩ := step_cases ht
  · exact absurd rfl hne
  · exact absurd (microStep_fault hm) hne
  · have hreset : op ≠ .reset := by
      rintro rfl
      obtain rfl := Host.Outcome.next.inj hp
      cases htf
    have hb : s.busy = false := Bool.eq_false_iff.2 fun hb => by
      obtain ⟨hn, hw⟩ := ho hb
      obtain rfl := (eq_of_not_held hn hw).resolve_right hreset
      obtain rfl := Host.Outcome.next.inj hp
      exact hne rfl
    obtain h | ⟨k, x, hk, rfl⟩ := hostPerform_fault_or hreset hp
    · exact absurd h hne
    · rw [hh, List.tail_cons]
      exact ⟨raiseFault_of_rest (s := { s with host := rest }) hb (hs.idle hb).seq k x, hk⟩

/-! ### A fault holds off everything but reset and WLEN (R217) -/

/-- While FAULT = 1 a host operation other than a reset is a WLEN write or changes neither extractor nor results nor the
fault record. -/
theorem hostPerform_of_fault {op : HostOp} {s t : State} (ho : op ≠ .reset) (ht : hostPerform op s = .next t)
    (hf : s.fault = true) :
    (∃ x, registerWrite op = some (2, x) ∧ t = wlenWrite x s) ∨ PlainAccess s t := by
  obtain ⟨k, x, hw, hc⟩ | ⟨x, rfl⟩ | hp := hostPerform_cases ho ht
  · obtain ⟨rfl, rfl⟩ | hc | rfl := csrWrite_cases hc
    · exact .inl ⟨x, hw, rfl⟩
    · exact .inr (Host.Outcome.next.inj ((cmdWrite_of_fault hf x).symm.trans hc) ▸ .refl s)
    · exact .inr (.refl _)
  · rw [cmdBegin_of_fault hf]
    exact .inr (.refl s)
  · exact .inr hp

/-- Settles O8: with FAULT = 1 the CORE is idle, so a step is nothing or a host operation. -/
theorem faultIsSticky : Obligations.FaultIsSticky := by
  intro s t hs ht hf hr
  obtain rfl | ⟨hb, -⟩ | ⟨op, rest, hh, -, hp⟩ := step_cases ht
  · exact ⟨hf, rfl, rfl, .refl _, fun _ => .refl _⟩
  · exact absurd (hb.symm.trans (hs.busy_of_fault hf)) nofun
  · have ho : op ≠ .reset := fun e => hr (by rw [hh, e, List.head?_cons])
    obtain ⟨x, hw, rfl⟩ | hp := hostPerform_of_fault ho hp hf
    · exact ⟨hf, rfl, rfl, ⟨rfl, rfl, rfl, rfl⟩, fun hne => absurd hw (hne op x (by rw [hh, List.head?_cons]))⟩
    · obtain ⟨hx, hres, hfl⟩ := hp
      exact ⟨hfl.fault.trans hf, hfl.cause, hfl.finfo, ⟨hres.res, hres.rcount, hres.pkidx, hres.pkmag⟩,
        fun _ => ⟨hx.wlen, hx.left, hx.cur, hx.bv, hx.exh⟩⟩

end Sys2Proof.Machine

/-! Proofs: the tests of R93 one by one, and the words of V10 and V11. -/

namespace Sys2Proof

/-! ### What each test of R93 answers -/

section DecodeTests

variable {c : Config} {x : Word}

/-- R93, the first test. -/
theorem decode_of_zeroField_ne (hz : zeroField x ≠ 0) : decode c x = .error .zeroField :=
  if_pos hz

/-- R92, R93: PASS with a number outside `1 <= s <= LGN`. -/
theorem decode_of_passNumber_out (hz : zeroField x = 0) (ho : opcField x = 0x05)
    (hp : ¬(1 ≤ (argField x).toNat ∧ (argField x).toNat ≤ c.lgn)) : decode c x = .error .passNumber := by
  rw [decode, if_neg (not_not.2 hz), if_pos ho, if_neg hp]

/-- R93: an operand on an opcode other than PASS. -/
theorem decode_of_argField_ne (hz : zeroField x = 0) (ho : opcField x ≠ 0x05) (ha : argField x ≠ 0) :
    decode c x = .error .argField := by
  rw [decode, if_neg (not_not.2 hz), if_neg ho, if_pos ha]

/-- R93: past the tests on the fields, the map of R91 answers. -/
theorem decode_eq_decodeOpc (hz : zeroField x = 0) (ho : opcField x ≠ 0x05) (ha : argField x = 0) :
    decode c x = decodeOpc (opcField x).toNat := by
  rw [decode, if_neg (not_not.2 hz), if_neg ho, if_neg (not_not.2 ha)]

end DecodeTests

/-- Settles O4: the ten legal words are the encodings of their commands, and each illegal word fails one test of R93. -/
theorem specWordsDecode : Obligations.SpecWordsDecode := by
  have legal := decodeOfEncode .default
  refine ⟨legal .rewind rfl, legal .extract rfl, legal .window rfl, legal .bitrev rfl, legal (.pass 1) (by decide),
    legal (.pass 12) (by decide), legal .fft rfl, legal .peak rfl, legal .block rfl, legal .run rfl, ?_, ?_, ?_, ?_⟩
  · exact decode_eq_decodeOpc (by decide) (by decide) (by decide)
  · exact decode_of_zeroField_ne (by decide)
  · exact decode_of_passNumber_out (by decide) (by decide) (by decide)
  · exact decode_of_argField_ne (by decide) (by decide) (by decide)

end Sys2Proof
